-- ==== Sys2Proof/Word.lean ====
section
/-! DEFINITION. The byte and the byte sequence (spec/00_scope.md R11). -/

namespace Sys2Proof

/-- A byte, an integer in 0..255 (R11, R68): as an integer it is `BitVec.toNat`, never sign-extended. -/
abbrev Byte := BitVec 8

/-- A byte sequence `B`; `B[0]` is the first byte written to or read from the channel (R11, R42).
A frame is one of 9 bytes (R61). -/
abbrev Bytes := List Byte

end Sys2Proof
end

