-- ==== Sys2Proof/Config.lean ====
section
/-! DEFINITION. The codec's parameters (spec/00_scope.md R9, 10_state.md R28). -/

namespace Sys2Proof

/-- The two parameters fixed when the block is instantiated (R28). The model holds one `Config` in
State and no step writes it (DESIGN CHOICE, log 1). -/
structure Config where
  /-- `STRICT_INSTRUCTION`: refuse instruction values outside R70's list (R73, R102; D5). -/
  strictInstruction : Bool
  /-- `UNKNOWN_STATUS_MESSAGE`: the text of an unknown status (R127; D10). -/
  unknownStatusMessage : String
deriving DecidableEq, Repr

/-- The defaults R9 and R28 state. -/
def Config.default : Config :=
  ⟨true, "unknown error"⟩

/-- The parameter `ChanErr` (R9; D8 leaves it open): which numbers stand for an error value of the channel. It
has no body, so no proof can see which they are or how many (log 8). -/
opaque Config.chanErrToken : Nat → Bool

/-- `ChanErr`, the channel's opaque error values, which the codec only passes on (R162). Token 0 always stands
for one, so that a channel can answer `err(e)`; of the others the parameter decides (DESIGN CHOICE, log 8). -/
structure ChanErr where
  token : Nat
  admitted : token = 0 ∨ Config.chanErrToken token = true
deriving DecidableEq, Repr

end Sys2Proof
end

