-- ==== Sys2Proof/Syntax.lean ====
section
/-! DEFINITION. The syntax: every row of spec/opcode_table.json as a constructor of `Instr`, and the
form in which the caller presents an operation (`Issue`). -/

namespace Sys2Proof

/-- The 21 instruction byte constants (R70). Their values stand in `Opcode.value`
(Machine/Frame.lean); the codec gives none of them a meaning. -/
inductive Opcode where
  | ror
  | rol
  | mst
  | mvp
  | sap
  | gap
  | stap
  | rsap
  | sgp
  | ggp
  | stgp
  | rsgp
  | rfs
  | sio
  | gio
  | sco
  | gco
  | cco
  | applStop
  | applRun
  | applReset
deriving DecidableEq, Repr

/-- The named `type` values of `MVP` (R71) and `RFS` (R72). -/
inductive SubOption where
  | mvpAbs
  | mvpRel
  | mvpCoord
  | rfsStart
  | rfsStop
  | rfsStatus
deriving DecidableEq, Repr

/-- The Command, the five operands of `ENCODE`, carried as unbounded integers (R21; D3). -/
structure Command where
  address : Int
  instruction : Int
  type : Int
  motor : Int
  value : Int
deriving DecidableEq, Repr

/-- The classes of a status byte (R76). -/
inductive StatusClass where
  | success
  | successStored
  | mappedError
  | unknown
deriving DecidableEq, Repr

/-- The operations, one constructor for each row of the opcode table.

`encode` and `decode` are the two operations of R60. An `encode<Name>` row is `ENCODE` with the row's
numerals fixed (R70 to R72, R79). A `decodeStatus<s>` row is `DECODE` together with the reply frame that
the channel delivers to it, whose status byte the row fixes (R75, R124 to R127; log 5, log 12); its
operands are the other fields of the frame, the received checksum among them (R64). -/
inductive Instr where
  | encode (address instruction type motor value : Int)
  | decode
  | encodeRor (address type motor value : Int)
  | encodeRol (address type motor value : Int)
  | encodeMst (address type motor value : Int)
  | encodeMvp (address type motor value : Int)
  | encodeSap (address type motor value : Int)
  | encodeGap (address type motor value : Int)
  | encodeStap (address type motor value : Int)
  | encodeRsap (address type motor value : Int)
  | encodeSgp (address type motor value : Int)
  | encodeGgp (address type motor value : Int)
  | encodeStgp (address type motor value : Int)
  | encodeRsgp (address type motor value : Int)
  | encodeRfs (address type motor value : Int)
  | encodeSio (address type motor value : Int)
  | encodeGio (address type motor value : Int)
  | encodeSco (address type motor value : Int)
  | encodeGco (address type motor value : Int)
  | encodeCco (address type motor value : Int)
  | encodeApplStop (address type motor value : Int)
  | encodeApplRun (address type motor value : Int)
  | encodeApplReset (address type motor value : Int)
  | encodeMvpAbs (address motor value : Int)
  | encodeMvpRel (address motor value : Int)
  | encodeMvpCoord (address motor value : Int)
  | encodeRfsStart (address motor value : Int)
  | encodeRfsStop (address motor value : Int)
  | encodeRfsStatus (address motor value : Int)
  | decodeStatus100 (replyAddress moduleAddress echoedInstruction : Byte) (value : Int) (checksum : Byte)
  | decodeStatus101 (replyAddress moduleAddress echoedInstruction : Byte) (value : Int) (checksum : Byte)
  | decodeStatus1 (replyAddress moduleAddress echoedInstruction : Byte) (value : Int) (checksum : Byte)
  | decodeStatus2 (replyAddress moduleAddress echoedInstruction : Byte) (value : Int) (checksum : Byte)
  | decodeStatus3 (replyAddress moduleAddress echoedInstruction : Byte) (value : Int) (checksum : Byte)
  | decodeStatus4 (replyAddress moduleAddress echoedInstruction : Byte) (value : Int) (checksum : Byte)
  | decodeStatus5 (replyAddress moduleAddress echoedInstruction : Byte) (value : Int) (checksum : Byte)
  | decodeStatus6 (replyAddress moduleAddress echoedInstruction : Byte) (value : Int) (checksum : Byte)
  | decodeStatusUnknown (replyAddress moduleAddress status echoedInstruction : Byte) (value : Int) (checksum : Byte)
deriving DecidableEq, Repr

/-- What the caller presents on the operation-select input.

`select` is R60's encoding, the 1-bit `OP` with that operation's operands. `request` and `reply` are the
opcode table's rows of format `REQ9` and `REP9`: the frame word that names an `ENCODE` by the request it
writes (R62), or a `DECODE` by the reply it is given (R64) (DESIGN CHOICE, log 5). -/
inductive Issue where
  | select (op : BitVec 1) (operands : List Int)
  | request (frame : Bytes)
  | reply (frame : Bytes)
deriving DecidableEq, Repr

end Sys2Proof
end

