-- ==== Sys2Proof/Machine/Frame.lean ====
section
/-! DEFINITION. Constants and frame formats of spec/30_encoding.md: ranges, instruction and status
values, checksum, big-endian value field, request and reply frames, frame words. No state. -/

namespace Sys2Proof.Machine

/-- The set `u8` of R13. -/
def inU8 (x : Int) : Bool := decide (0 ≤ x ∧ x ≤ 255)

/-- The set `i32` of R13. -/
def inI32 (x : Int) : Bool := decide (-2147483648 ≤ x ∧ x ≤ 2147483647)

/-- The byte with the unsigned value `x`, for `x` in `u8` (R68). -/
def u8 (x : Int) : Byte := BitVec.ofInt 8 x

/-- The decimal values of R70. -/
def opcodeValue : Opcode → Nat
  | .ror => 1
  | .rol => 2
  | .mst => 3
  | .mvp => 4
  | .sap => 5
  | .gap => 6
  | .stap => 7
  | .rsap => 8
  | .sgp => 9
  | .ggp => 10
  | .stgp => 11
  | .rsgp => 12
  | .rfs => 13
  | .sio => 14
  | .gio => 15
  | .sco => 30
  | .gco => 31
  | .cco => 32
  | .applStop => 128
  | .applRun => 129
  | .applReset => 131

/-- The 21 opcodes in R70's order. -/
def opcodes : List Opcode :=
  [.ror, .rol, .mst, .mvp, .sap, .gap, .stap, .rsap, .sgp, .ggp, .stgp, .rsgp, .rfs, .sio, .gio,
    .sco, .gco, .cco, .applStop, .applRun, .applReset]

/-- `LEGAL_INSTR` (R73): the values of R70. -/
def legalInstr : List Nat := opcodes.map opcodeValue

/-- The opcode whose sub-option it is (R71, R72). -/
def subOptionOpcode : SubOption → Opcode
  | .mvpAbs | .mvpRel | .mvpCoord => .mvp
  | .rfsStart | .rfsStop | .rfsStatus => .rfs

/-- The `type` value of a sub-option (R71, R72). -/
def subOptionValue : SubOption → Nat
  | .mvpAbs | .rfsStart => 0
  | .mvpRel | .rfsStop => 1
  | .mvpCoord | .rfsStatus => 2

/-- `STATUS_CLASS` (R76). -/
def statusClass (s : Byte) : StatusClass :=
  if s.toNat = 100 then .success
  else if s.toNat = 101 then .successStored
  else if 1 ≤ s.toNat ∧ s.toNat ≤ 6 then .mappedError
  else .unknown

/-- `STATUS_MESSAGE` (R75, R126): the exact messages of the mapped failures; `none` for every other
code. -/
def statusMessage (s : Byte) : Option String :=
  match s.toNat with
  | 1 => some "Wrong checksum"
  | 2 => some "Invalid command"
  | 3 => some "Wrong type"
  | 4 => some "Invalid value"
  | 5 => some "Configuration EEPROM locked"
  | 6 => some "Command not available"
  | _ => none

/-- The messages R75 gives the two success codes; no outcome carries them. -/
def successMessage (s : Byte) : Option String :=
  match s.toNat with
  | 100 => some "Successfully executed, no error"
  | 101 => some "Command loaded into TMCL program EEPROM"
  | _ => none

/-- The unsigned sum of a byte sequence, not truncated (R15). -/
def byteSum (p : Bytes) : Nat := (p.map BitVec.toNat).sum

/-- `CHECKSUM8` (R65): the unsigned byte sum modulo 256. -/
def checksum8 (p : Bytes) : Byte := BitVec.ofNat 8 (byteSum p % 256)

/-- A 9-byte sequence whose last byte is the checksum of the first 8 (R65). -/
def wellChecksummed (f : Bytes) : Bool :=
  decide (f.length = 9 ∧ f[8]? = some (checksum8 (f.take 8)))

/-- `BE32_PACK` (R66): the two's complement image `v mod 2^32`, most significant byte first (R43). -/
def bePack32 (v : Int) : Bytes :=
  let u := (v % 4294967296).toNat
  [BitVec.ofNat 8 (u / 16777216 % 256), BitVec.ofNat 8 (u / 65536 % 256),
    BitVec.ofNat 8 (u / 256 % 256), BitVec.ofNat 8 (u % 256)]

/-- `sext_32` (R13). -/
def sext32 (u : Nat) : Int := if 2147483648 ≤ u then (u : Int) - 4294967296 else u

/-- The unsigned big-endian reading `b4·2^24 + b5·2^16 + b6·2^8 + b7` of R67. -/
def beNat32 (b4 b5 b6 b7 : Byte) : Nat :=
  ((b4.toNat * 256 + b5.toNat) * 256 + b6.toNat) * 256 + b7.toNat

/-- `BE32_UNPACK` (R67). -/
def beUnpack32 (b4 b5 b6 b7 : Byte) : Int := sext32 (beNat32 b4 b5 b6 b7)

/-- The first 8 bytes of both frame formats (R62, R64, R69). -/
def framePayload (b0 b1 b2 b3 : Byte) (value : Int) : Bytes :=
  [b0, b1, b2, b3] ++ bePack32 value

/-- `REQ9` (R63): payload and checksum. It is the frame of a command whose operands are in range. -/
def requestFrame (c : Command) : Bytes :=
  let p := framePayload (u8 c.address) (u8 c.instruction) (u8 c.type) (u8 c.motor) c.value
  p ++ [checksum8 p]

/-- The fields of a reply frame as parsed (R64, R122). -/
structure Reply where
  replyAddress : Byte
  moduleAddress : Byte
  status : Byte
  echoedInstruction : Byte
  value : Int
  checksum : Byte
deriving DecidableEq, Repr

/-- The reply frame `REP9` with these fields (R64). -/
def replyFrame (r : Reply) : Bytes :=
  framePayload r.replyAddress r.moduleAddress r.status r.echoedInstruction r.value ++ [r.checksum]

/-- Parsing (R122): every 9-byte sequence parses, and nothing else does (R121). -/
def parseReply : Bytes → Option Reply
  | [b0, b1, b2, b3, b4, b5, b6, b7, b8] => some ⟨b0, b1, b2, b3, beUnpack32 b4 b5 b6 b7, b8⟩
  | _ => none

/-- The frame word `W(B)` (R12): byte 0 most significant. -/
def frameWord (f : Bytes) : Nat := f.foldl (fun w b => w * 256 + b.toNat) 0

/-- The 9 bytes of a 72-bit frame word (R12): byte `k` is `W[71−8k : 64−8k]`, so the divisors are the powers
of 256 from `2^64` down. -/
def frameOfWord (w : Nat) : Bytes :=
  [w / 18446744073709551616, w / 72057594037927936, w / 281474976710656, w / 1099511627776,
    w / 4294967296, w / 16777216, w / 65536, w / 256, w].map fun n => BitVec.ofNat 8 (n % 256)

/-- The command an `ENCODE` row issues, the row's numerals in their operands' places (R70 to R72, R79);
`none` for the `DECODE` rows. -/
def commandOf : Instr → Option Command
  | .encode a i t m v => some ⟨a, i, t, m, v⟩
  | .encodeRor a t m v => some ⟨a, opcodeValue .ror, t, m, v⟩
  | .encodeRol a t m v => some ⟨a, opcodeValue .rol, t, m, v⟩
  | .encodeMst a t m v => some ⟨a, opcodeValue .mst, t, m, v⟩
  | .encodeMvp a t m v => some ⟨a, opcodeValue .mvp, t, m, v⟩
  | .encodeSap a t m v => some ⟨a, opcodeValue .sap, t, m, v⟩
  | .encodeGap a t m v => some ⟨a, opcodeValue .gap, t, m, v⟩
  | .encodeStap a t m v => some ⟨a, opcodeValue .stap, t, m, v⟩
  | .encodeRsap a t m v => some ⟨a, opcodeValue .rsap, t, m, v⟩
  | .encodeSgp a t m v => some ⟨a, opcodeValue .sgp, t, m, v⟩
  | .encodeGgp a t m v => some ⟨a, opcodeValue .ggp, t, m, v⟩
  | .encodeStgp a t m v => some ⟨a, opcodeValue .stgp, t, m, v⟩
  | .encodeRsgp a t m v => some ⟨a, opcodeValue .rsgp, t, m, v⟩
  | .encodeRfs a t m v => some ⟨a, opcodeValue .rfs, t, m, v⟩
  | .encodeSio a t m v => some ⟨a, opcodeValue .sio, t, m, v⟩
  | .encodeGio a t m v => some ⟨a, opcodeValue .gio, t, m, v⟩
  | .encodeSco a t m v => some ⟨a, opcodeValue .sco, t, m, v⟩
  | .encodeGco a t m v => some ⟨a, opcodeValue .gco, t, m, v⟩
  | .encodeCco a t m v => some ⟨a, opcodeValue .cco, t, m, v⟩
  | .encodeApplStop a t m v => some ⟨a, opcodeValue .applStop, t, m, v⟩
  | .encodeApplRun a t m v => some ⟨a, opcodeValue .applRun, t, m, v⟩
  | .encodeApplReset a t m v => some ⟨a, opcodeValue .applReset, t, m, v⟩
  | .encodeMvpAbs a m v => some ⟨a, opcodeValue (subOptionOpcode .mvpAbs), subOptionValue .mvpAbs, m, v⟩
  | .encodeMvpRel a m v => some ⟨a, opcodeValue (subOptionOpcode .mvpRel), subOptionValue .mvpRel, m, v⟩
  | .encodeMvpCoord a m v => some ⟨a, opcodeValue (subOptionOpcode .mvpCoord), subOptionValue .mvpCoord, m, v⟩
  | .encodeRfsStart a m v => some ⟨a, opcodeValue (subOptionOpcode .rfsStart), subOptionValue .rfsStart, m, v⟩
  | .encodeRfsStop a m v => some ⟨a, opcodeValue (subOptionOpcode .rfsStop), subOptionValue .rfsStop, m, v⟩
  | .encodeRfsStatus a m v => some ⟨a, opcodeValue (subOptionOpcode .rfsStatus), subOptionValue .rfsStatus, m, v⟩
  | .decode => none
  | .decodeStatus100 _ _ _ _ _ => none
  | .decodeStatus101 _ _ _ _ _ => none
  | .decodeStatus1 _ _ _ _ _ => none
  | .decodeStatus2 _ _ _ _ _ => none
  | .decodeStatus3 _ _ _ _ _ => none
  | .decodeStatus4 _ _ _ _ _ => none
  | .decodeStatus5 _ _ _ _ _ => none
  | .decodeStatus6 _ _ _ _ _ => none
  | .decodeStatusUnknown _ _ _ _ _ _ => none

/-- The reply a `DECODE` status row is given (R64, R75); `none` for every other row. -/
def replyOf : Instr → Option Reply
  | .decodeStatus100 r m e v c => some ⟨r, m, 100, e, v, c⟩
  | .decodeStatus101 r m e v c => some ⟨r, m, 101, e, v, c⟩
  | .decodeStatus1 r m e v c => some ⟨r, m, 1, e, v, c⟩
  | .decodeStatus2 r m e v c => some ⟨r, m, 2, e, v, c⟩
  | .decodeStatus3 r m e v c => some ⟨r, m, 3, e, v, c⟩
  | .decodeStatus4 r m e v c => some ⟨r, m, 4, e, v, c⟩
  | .decodeStatus5 r m e v c => some ⟨r, m, 5, e, v, c⟩
  | .decodeStatus6 r m e v c => some ⟨r, m, 6, e, v, c⟩
  | .decodeStatusUnknown r m s e v c => some ⟨r, m, s, e, v, c⟩
  | .decode => none
  | .encode _ _ _ _ _ => none
  | .encodeRor _ _ _ _ => none
  | .encodeRol _ _ _ _ => none
  | .encodeMst _ _ _ _ => none
  | .encodeMvp _ _ _ _ => none
  | .encodeSap _ _ _ _ => none
  | .encodeGap _ _ _ _ => none
  | .encodeStap _ _ _ _ => none
  | .encodeRsap _ _ _ _ => none
  | .encodeSgp _ _ _ _ => none
  | .encodeGgp _ _ _ _ => none
  | .encodeStgp _ _ _ _ => none
  | .encodeRsgp _ _ _ _ => none
  | .encodeRfs _ _ _ _ => none
  | .encodeSio _ _ _ _ => none
  | .encodeGio _ _ _ _ => none
  | .encodeSco _ _ _ _ => none
  | .encodeGco _ _ _ _ => none
  | .encodeCco _ _ _ _ => none
  | .encodeApplStop _ _ _ _ => none
  | .encodeApplRun _ _ _ _ => none
  | .encodeApplReset _ _ _ _ => none
  | .encodeMvpAbs _ _ _ => none
  | .encodeMvpRel _ _ _ => none
  | .encodeMvpCoord _ _ _ => none
  | .encodeRfsStart _ _ _ => none
  | .encodeRfsStop _ _ _ => none
  | .encodeRfsStatus _ _ _ => none

end Sys2Proof.Machine
end

