-- ==== Sys2Proof/WellFormed.lean ====
section
/-! DEFINITION. Well-formed instructions: those that have an encoding of their own row. -/

namespace Sys2Proof

open Sys2Proof.Machine

/-- Operands that fit the fields of a request word (R62). -/
def fitsRequest (a t m v : Int) : Bool := inU8 a && inU8 t && inU8 m && inI32 v

/-- The row of `MVP` or `RFS` itself names the `type` values that no sub-option row names
(R71, R72, R74; log 5). -/
def plainType (t : Int) : Bool := !(t == 0 || t == 1 || t == 2)

/-- A well-formed instruction. `ENCODE` takes any five integers (R21) and `DECODE` takes none; a named
`ENCODE` row has operands that fit its frame word; a status row has a value in `i32`, and the row of
unknown statuses a status that no other row names (R75). -/
def Instr.wellFormed : Instr → Bool
  | .encode _ _ _ _ _ => true
  | .decode => true
  | .encodeRor a t m v => fitsRequest a t m v
  | .encodeRol a t m v => fitsRequest a t m v
  | .encodeMst a t m v => fitsRequest a t m v
  | .encodeMvp a t m v => fitsRequest a t m v && plainType t
  | .encodeSap a t m v => fitsRequest a t m v
  | .encodeGap a t m v => fitsRequest a t m v
  | .encodeStap a t m v => fitsRequest a t m v
  | .encodeRsap a t m v => fitsRequest a t m v
  | .encodeSgp a t m v => fitsRequest a t m v
  | .encodeGgp a t m v => fitsRequest a t m v
  | .encodeStgp a t m v => fitsRequest a t m v
  | .encodeRsgp a t m v => fitsRequest a t m v
  | .encodeRfs a t m v => fitsRequest a t m v && plainType t
  | .encodeSio a t m v => fitsRequest a t m v
  | .encodeGio a t m v => fitsRequest a t m v
  | .encodeSco a t m v => fitsRequest a t m v
  | .encodeGco a t m v => fitsRequest a t m v
  | .encodeCco a t m v => fitsRequest a t m v
  | .encodeApplStop a t m v => fitsRequest a t m v
  | .encodeApplRun a t m v => fitsRequest a t m v
  | .encodeApplReset a t m v => fitsRequest a t m v
  | .encodeMvpAbs a m v => fitsRequest a 0 m v
  | .encodeMvpRel a m v => fitsRequest a 0 m v
  | .encodeMvpCoord a m v => fitsRequest a 0 m v
  | .encodeRfsStart a m v => fitsRequest a 0 m v
  | .encodeRfsStop a m v => fitsRequest a 0 m v
  | .encodeRfsStatus a m v => fitsRequest a 0 m v
  | .decodeStatus100 _ _ _ v _ => inI32 v
  | .decodeStatus101 _ _ _ v _ => inI32 v
  | .decodeStatus1 _ _ _ v _ => inI32 v
  | .decodeStatus2 _ _ _ v _ => inI32 v
  | .decodeStatus3 _ _ _ v _ => inI32 v
  | .decodeStatus4 _ _ _ v _ => inI32 v
  | .decodeStatus5 _ _ _ v _ => inI32 v
  | .decodeStatus6 _ _ _ v _ => inI32 v
  | .decodeStatusUnknown _ _ s _ v _ => inI32 v && statusClass s == .unknown

end Sys2Proof
end

