-- ==== Sys2Proof/Decode.lean ====
section
/-! DEFINITION. The decoder of an issue, total, rejecting by name; the encoder; the opcode table's
numbering of the words (spec/30_encoding.md R60, R62, R64; spec/opcode_table.json; log 5, log 6). -/

namespace Sys2Proof

open Sys2Proof.Machine

/-- Why an issue is no encoding of an operation. -/
inductive DecodeError where
  /-- `OP` with another number of operands than R60 gives its operation. -/
  | operandCount
  /-- A frame word that is not 9 bytes (R61). -/
  | frameLength
deriving DecidableEq, Repr

/-- The operation a request word names: its sub-option's row where `type` has one, else its opcode's
row, else plain `ENCODE` of the same operands (R70 to R74; log 5). -/
def requestInstr (a i t m : Nat) (v : Int) : Instr :=
  match i with
  | 1 => .encodeRor a t m v
  | 2 => .encodeRol a t m v
  | 3 => .encodeMst a t m v
  | 4 => match t with
    | 0 => .encodeMvpAbs a m v
    | 1 => .encodeMvpRel a m v
    | 2 => .encodeMvpCoord a m v
    | _ => .encodeMvp a t m v
  | 5 => .encodeSap a t m v
  | 6 => .encodeGap a t m v
  | 7 => .encodeStap a t m v
  | 8 => .encodeRsap a t m v
  | 9 => .encodeSgp a t m v
  | 10 => .encodeGgp a t m v
  | 11 => .encodeStgp a t m v
  | 12 => .encodeRsgp a t m v
  | 13 => match t with
    | 0 => .encodeRfsStart a m v
    | 1 => .encodeRfsStop a m v
    | 2 => .encodeRfsStatus a m v
    | _ => .encodeRfs a t m v
  | 14 => .encodeSio a t m v
  | 15 => .encodeGio a t m v
  | 30 => .encodeSco a t m v
  | 31 => .encodeGco a t m v
  | 32 => .encodeCco a t m v
  | 128 => .encodeApplStop a t m v
  | 129 => .encodeApplRun a t m v
  | 131 => .encodeApplReset a t m v
  | _ => .encode a i t m v

/-- The row of a reply word, by its status byte (R75). -/
def replyInstr (r : Reply) : Instr :=
  match r.status.toNat with
  | 100 => .decodeStatus100 r.replyAddress r.moduleAddress r.echoedInstruction r.value r.checksum
  | 101 => .decodeStatus101 r.replyAddress r.moduleAddress r.echoedInstruction r.value r.checksum
  | 1 => .decodeStatus1 r.replyAddress r.moduleAddress r.echoedInstruction r.value r.checksum
  | 2 => .decodeStatus2 r.replyAddress r.moduleAddress r.echoedInstruction r.value r.checksum
  | 3 => .decodeStatus3 r.replyAddress r.moduleAddress r.echoedInstruction r.value r.checksum
  | 4 => .decodeStatus4 r.replyAddress r.moduleAddress r.echoedInstruction r.value r.checksum
  | 5 => .decodeStatus5 r.replyAddress r.moduleAddress r.echoedInstruction r.value r.checksum
  | 6 => .decodeStatus6 r.replyAddress r.moduleAddress r.echoedInstruction r.value r.checksum
  | _ => .decodeStatusUnknown r.replyAddress r.moduleAddress r.status r.echoedInstruction r.value r.checksum

/-- The operation an issue stands for. `OP` has no reserved value (R60), and no bit of a frame word is
reserved (R77). The checksum byte of a request word is not read: `ENCODE` has no checksum operand and
computes it itself (R63; log 5). -/
def decode : Issue → Except DecodeError Instr
  | .select op operands =>
    if op = 0#1 then
      match operands with
      | [a, i, t, m, v] => .ok (.encode a i t m v)
      | _ => .error .operandCount
    else
      match operands with
      | [] => .ok .decode
      | _ => .error .operandCount
  | .request f =>
    match f with
    | [a, i, t, m, b4, b5, b6, b7, _] =>
      .ok (requestInstr a.toNat i.toNat t.toNat m.toNat (beUnpack32 b4 b5 b6 b7))
    | _ => .error .frameLength
  | .reply f =>
    match parseReply f with
    | some r => .ok (replyInstr r)
    | none => .error .frameLength

/-- The request word of the command with opcode `o` (R62, R63). -/
def requestIssue (o : Opcode) (a t m v : Int) : Issue := .request (requestFrame ⟨a, opcodeValue o, t, m, v⟩)

/-- The request word of a sub-option (R71, R72). -/
def subOptionIssue (o : SubOption) (a m v : Int) : Issue :=
  requestIssue (subOptionOpcode o) a (subOptionValue o) m v

/-- The reply word with these fields (R64). -/
def replyIssue (r m s e : Byte) (v : Int) (c : Byte) : Issue := .reply (replyFrame ⟨r, m, s, e, v, c⟩)

/-- The encoder: the issue of a well-formed instruction (R60, R62, R64 and the table's rows). -/
def encode : Instr → Issue
  | .encode a i t m v => .select 0 [a, i, t, m, v]
  | .decode => .select 1 []
  | .encodeRor a t m v => requestIssue .ror a t m v
  | .encodeRol a t m v => requestIssue .rol a t m v
  | .encodeMst a t m v => requestIssue .mst a t m v
  | .encodeMvp a t m v => requestIssue .mvp a t m v
  | .encodeSap a t m v => requestIssue .sap a t m v
  | .encodeGap a t m v => requestIssue .gap a t m v
  | .encodeStap a t m v => requestIssue .stap a t m v
  | .encodeRsap a t m v => requestIssue .rsap a t m v
  | .encodeSgp a t m v => requestIssue .sgp a t m v
  | .encodeGgp a t m v => requestIssue .ggp a t m v
  | .encodeStgp a t m v => requestIssue .stgp a t m v
  | .encodeRsgp a t m v => requestIssue .rsgp a t m v
  | .encodeRfs a t m v => requestIssue .rfs a t m v
  | .encodeSio a t m v => requestIssue .sio a t m v
  | .encodeGio a t m v => requestIssue .gio a t m v
  | .encodeSco a t m v => requestIssue .sco a t m v
  | .encodeGco a t m v => requestIssue .gco a t m v
  | .encodeCco a t m v => requestIssue .cco a t m v
  | .encodeApplStop a t m v => requestIssue .applStop a t m v
  | .encodeApplRun a t m v => requestIssue .applRun a t m v
  | .encodeApplReset a t m v => requestIssue .applReset a t m v
  | .encodeMvpAbs a m v => subOptionIssue .mvpAbs a m v
  | .encodeMvpRel a m v => subOptionIssue .mvpRel a m v
  | .encodeMvpCoord a m v => subOptionIssue .mvpCoord a m v
  | .encodeRfsStart a m v => subOptionIssue .rfsStart a m v
  | .encodeRfsStop a m v => subOptionIssue .rfsStop a m v
  | .encodeRfsStatus a m v => subOptionIssue .rfsStatus a m v
  | .decodeStatus100 r m e v c => replyIssue r m 100 e v c
  | .decodeStatus101 r m e v c => replyIssue r m 101 e v c
  | .decodeStatus1 r m e v c => replyIssue r m 1 e v c
  | .decodeStatus2 r m e v c => replyIssue r m 2 e v c
  | .decodeStatus3 r m e v c => replyIssue r m 3 e v c
  | .decodeStatus4 r m e v c => replyIssue r m 4 e v c
  | .decodeStatus5 r m e v c => replyIssue r m 5 e v c
  | .decodeStatus6 r m e v c => replyIssue r m 6 e v c
  | .decodeStatusUnknown r m s e v c => replyIssue r m s e v c

/-- The issue that an instruction's bits stand for in the opcode table's numbering (log 6).

A word of at most 8 bits is a row of format `OP`: bit 0 is `OP`, the operand integers are 0. A longer word
is a frame word in R12's numbering. The word does not say which of the two frame formats it is in: it is
read as a request when its instruction byte `W[63:56]` is one of R70's constants, else as a reply. -/
def tableIssue (nbits w : Nat) : Issue :=
  if nbits ≤ 8 then
    if w % 2 = 0 then .select 0 [0, 0, 0, 0, 0] else .select 1 []
  else if legalInstr.contains (w / 72057594037927936 % 256) then .request (frameOfWord w)
  else .reply (frameOfWord w)

/-- What the decoder reads from a word of the opcode table. -/
def decodeTableWord (nbits w : Nat) : Option Instr :=
  match decode (tableIssue nbits w) with
  | .ok i => some i
  | .error _ => none

end Sys2Proof
end

