-- ==== Sys2Proof/Machine/State.lean ====
section
/-! DEFINITION. State, outcomes, faults and refusals (spec/10_state.md, spec/60_exceptions.md). Plain data. -/

namespace Sys2Proof.Machine

/-- `ENC_PHASE` (R24). -/
inductive EncPhase where
  | idle
  | writing
deriving DecidableEq, Repr

/-- `DEC_PHASE` (R25). -/
inductive DecPhase where
  | idle
  | await
  | validated
  | rejected
deriving DecidableEq, Repr

/-- The operand a contract violation names (R161). -/
inductive Field where
  | address
  | instruction
  | type
  | motor
  | value
deriving DecidableEq, Repr

/-- Why an operand is refused (R161). -/
inductive Reason where
  | outOfRange
  | notEnumerated
deriving DecidableEq, Repr

/-- The kinds of `IOError` (R162). -/
inductive IOErrorKind where
  | writeFailed (e : ChanErr)
  | readFailed (e : ChanErr)
  | shortRead (n : Nat)
  | lengthMismatch (n : Nat)
deriving DecidableEq, Repr

/-- The typed errors an operation ends with, and their payloads (R160 to R164). They are outcomes the
caller receives, not faults of the machine (R169; log 14). -/
inductive OpError where
  | contractViolation (field : Field) (offered : Int) (reason : Reason)
  | ioError (kind : IOErrorKind)
  | checksumError (received computed : Byte)
  | protocolError (code : Byte) (message : String)
deriving DecidableEq, Repr

/-- `RES` (R26). -/
structure Result where
  replyAddress : Byte
  moduleAddress : Byte
  status : Byte
  echoedInstruction : Byte
  value : Int
  stored : Bool
deriving DecidableEq, Repr

/-- `ENC_OUT` (R27): `Ok` with the 9 bytes handed over (R105), or an error. -/
inductive EncOutcome where
  | ok (frame : Bytes)
  | error (e : OpError)
deriving DecidableEq, Repr

/-- `DEC_OUT` (R27): `Ok` with `RES`, or an error. -/
inductive DecOutcome where
  | ok (res : Result)
  | error (e : OpError)
deriving DecidableEq, Repr

/-- One channel access of the codec (R14, R45, R46). -/
inductive ChanCall where
  | write (b : Bytes)
  | read (n : Nat)
deriving DecidableEq, Repr

/-- The channel's answer to `ChanWrite` (R14, R47). On an error, `sent` is the draw of how many of the
bytes reached the wire (D19; log 9). -/
inductive WriteAnswer where
  | ok
  | err (e : ChanErr) (sent : Nat)
deriving DecidableEq, Repr

/-- The channel's answer to `ChanRead(9)` (R14, R47). -/
inductive ReadAnswer where
  | bytes (b : Bytes)
  | err (e : ChanErr)
deriving DecidableEq, Repr

/-- The draws of a reset during an operation (R201): how many bytes of an abandoned write had reached
the wire, and which bytes an abandoned read had consumed. -/
structure ResetDraw where
  sent : Nat
  lost : Bytes
deriving DecidableEq, Repr

/-- What the outside world does next (INVENTORY, Host interface; log 3). -/
inductive Input where
  /-- The caller presents an operation (R60). -/
  | issue (p : Issue)
  /-- The channel answers a write (R47). -/
  | writeAnswer (a : WriteAnswer)
  /-- The channel answers a read (R47). -/
  | readAnswer (a : ReadAnswer)
  /-- The block is reset (R200, R201). -/
  | reset (d : ResetDraw)
  /-- The caller attaches an open, configured channel (R202). -/
  | attachChannel
deriving DecidableEq, Repr

/-- The registers that can hold no value (R34). -/
inductive Reg where
  | cmd
  | txf
  | rxf
  | rxlen
  | res
  | encOut
  | decOut
deriving DecidableEq, Repr

/-- Why the machine stops. -/
inductive Fault where
  /-- A read of a register, or of a position of a buffer, that holds no value (R34, D15, I13). Raised by the
  readers of Machine/Ops.lean and by the end of a write whose `TXF` holds no value, which no run from reset
  reaches. Safe. -/
  | noValue (r : Reg)
  /-- A read of a frame position above 8 (R40, R51; log 11). Raised by `readTxf` and `readRxf`. Safe. -/
  | noPosition (k : Nat)
deriving DecidableEq, Repr

/-- Why the machine gives an issue no step. -/
inductive Refusal where
  /-- An instruction that has no meaning yet; no arm of `exec` uses it. Safe. -/
  | notModelled (mnemonic : String)
  /-- `OVERLAP` (R203, D26, I10): an operation issued while another is in flight. Raised by
  `whenReady`. Safe. -/
  | overlap
  /-- An operation issued with no channel attached (R202, I16). Raised by `whenReady`. Safe. -/
  | noChannel
  /-- An issue whose `OP` comes with another number of operands than R60 gives it. Raised by `step`. Safe. -/
  | operandCount
  /-- An issue by a frame word that is not 9 bytes (R61). Raised by `step`. Safe. -/
  | frameLength
deriving DecidableEq, Repr

/-- The machine's state. `none` in a register is the spec's "no value" (R34). -/
structure State where
  /-- The two parameters (R28); no step writes them (log 1). -/
  config : Config
  /-- `CMD`, the operands of the last `ENCODE` issued (R21). -/
  cmd : Option Command
  /-- `TXF` (R22). -/
  txf : Option Bytes
  /-- `RXF` (R23). -/
  rxf : Option Bytes
  /-- `RXLEN` (R23). -/
  rxlen : Option Nat
  /-- `ENC_PHASE` (R24). -/
  encPhase : EncPhase
  /-- `DEC_PHASE` (R25). -/
  decPhase : DecPhase
  /-- `RES` (R26). -/
  res : Option Result
  /-- `ENC_OUT` (R27). -/
  encOut : Option EncOutcome
  /-- `DEC_OUT` (R27). -/
  decOut : Option DecOutcome
  /-- The channel agent: whether the caller has attached one (R202). -/
  attached : Bool
  /-- The channel agent: `TX_STREAM`, the bytes that reached the wire, oldest first (R33). -/
  txStream : Bytes
  /-- The channel agent: the bytes consumed from `RX_STREAM`, oldest first (R33, R47; log 16). -/
  rxTaken : Bytes
  /-- The model's history of the codec's channel accesses, oldest first (log 19). -/
  calls : List ChanCall
  /-- Free: the channel's answers to the coming writes, oldest first (R47; log 3). -/
  writeAnswers : List WriteAnswer
  /-- Free: the channel's answers to the coming reads, oldest first (R47; log 3). -/
  readAnswers : List ReadAnswer
  /-- Free: what the outside world does next, oldest first (log 3). -/
  inputs : List Input
deriving DecidableEq, Repr

/-- The machine right after reset (R35, R200), with the default configuration (R28) and a channel attached
(log 2). Nothing has been issued, written, read or answered. -/
def State.reset : State where
  config := Config.default
  cmd := none
  txf := none
  rxf := none
  rxlen := none
  encPhase := .idle
  decPhase := .idle
  res := none
  encOut := none
  decOut := none
  attached := true
  txStream := []
  rxTaken := []
  calls := []
  writeAnswers := []
  readAnswers := []
  inputs := []

/-- The three outcomes of a meaning. -/
abbrev StepResult := Host.Outcome State Fault Refusal

end Sys2Proof.Machine
end

