-- ==== Sys2Proof/Machine/Flags.lean ====
section
/-! DEFINITION. The codec has no flags (R30). What an operation leaves as status: the classification of a
reply (spec/41_decoder.md R121 to R128), `RES.stored`, and the numeric codes (spec/60_exceptions.md). -/

namespace Sys2Proof.Machine

/-- The error of a read of `n ≠ 9` bytes (R121). -/
def lengthError (n : Nat) : OpError :=
  .ioError (if n < 9 then .shortRead n else .lengthMismatch n)

/-- `RES` of a reply that passes (R120, R122): `stored` says status 101 (R125). -/
def resultOf (r : Reply) : Result :=
  ⟨r.replyAddress, r.moduleAddress, r.status, r.echoedInstruction, r.value, decide (r.status.toNat = 101)⟩

/-- The status check (R124 to R127). -/
def statusOutcome (cfg : Config) (r : Reply) : DecOutcome :=
  match statusClass r.status with
  | .success | .successStored => .ok (resultOf r)
  | .mappedError =>
    .error (.protocolError r.status ((statusMessage r.status).getD cfg.unknownStatusMessage))
  | .unknown => .error (.protocolError r.status cfg.unknownStatusMessage)

/-- What `DECODE` makes of the bytes a read returned, in R128's order: length, checksum, status. -/
def replyOutcome (cfg : Config) (b : Bytes) : DecOutcome :=
  match parseReply b with
  | none => .error (lengthError b.length)
  | some r =>
    if r.checksum ≠ checksum8 (b.take 8) then
      .error (.checksumError r.checksum (checksum8 (b.take 8)))
    else statusOutcome cfg r

/-- The numeric code of an error kind (R160). -/
def errorCode : OpError → Nat
  | .contractViolation _ _ _ => 1
  | .ioError _ => 2
  | .checksumError _ _ => 3
  | .protocolError _ _ => 4

/-- The numeric code of an encoder outcome (R160). -/
def encOutcomeCode : EncOutcome → Nat
  | .ok _ => 0
  | .error e => errorCode e

/-- The numeric code of a decoder outcome (R160). -/
def decOutcomeCode : DecOutcome → Nat
  | .ok _ => 0
  | .error e => errorCode e

/-- The numeric code of a field (R161). -/
def fieldCode : Field → Nat
  | .address => 0
  | .instruction => 1
  | .type => 2
  | .motor => 3
  | .value => 4

/-- The numeric code of a reason (R161). -/
def reasonCode : Reason → Nat
  | .outOfRange => 0
  | .notEnumerated => 1

/-- The sub-code of an `IOError` (R162). -/
def ioErrorCode : IOErrorKind → Nat
  | .writeFailed _ => 0
  | .readFailed _ => 1
  | .shortRead _ => 2
  | .lengthMismatch _ => 3

end Sys2Proof.Machine
end

