-- ==== Sys2Proof/Machine/Operands.lean ====
section
/-! DEFINITION. The operand checks of `ENCODE` (spec/40_encoder.md R101, R102). -/

namespace Sys2Proof.Machine

/-- R102: with `STRICT_INSTRUCTION`, an instruction value must be one of `LEGAL_INSTR`. -/
def enumerated (cfg : Config) (i : Int) : Bool :=
  !cfg.strictInstruction || (legalInstr.map Int.ofNat).contains i

/-- The operand checks in their fixed order (R100 step 1, R101, R102): the `ContractViolation` of the
first that fails. -/
def checkCommand (cfg : Config) (c : Command) : Option OpError :=
  if !inU8 c.address then some (.contractViolation .address c.address .outOfRange)
  else if !inU8 c.instruction then some (.contractViolation .instruction c.instruction .outOfRange)
  else if !enumerated cfg c.instruction then
    some (.contractViolation .instruction c.instruction .notEnumerated)
  else if !inU8 c.type then some (.contractViolation .type c.type .outOfRange)
  else if !inU8 c.motor then some (.contractViolation .motor c.motor .outOfRange)
  else if !inI32 c.value then some (.contractViolation .value c.value .outOfRange)
  else none

end Sys2Proof.Machine
end

