-- ==== Sys2Proof/Machine/Ops.lean ====
section
/-! DEFINITION. The named operations over the registers and the channel, raising an error and returning
(spec/60_exceptions.md), and the two operations every meaning calls. -/

namespace Sys2Proof.Machine

/-! ### Readers (R34, R36) -/

/-- An operation is in flight (R203). -/
def State.busy (s : State) : Bool := s.encPhase == .writing || s.decPhase == .await

/-- The caller's or the codec's read of a register: `noValue` where it holds none (R34). -/
def readReg {α : Type} (r : Reg) : Option α → Except Fault α
  | some a => .ok a
  | none => .error (.noValue r)

/-- Position `k` of the frame in buffer `r` (R40, R51): a frame has the positions 0 to 8 and no other, however
many bytes a read brought, and one to which a short read brought no byte holds no value (R34; log 11). -/
def framePosition (r : Reg) (f : Bytes) (k : Nat) : Except Fault Byte :=
  if k < 9 then readReg r f[k]? else .error (.noPosition k)

def readCmd (s : State) : Except Fault Command := readReg .cmd s.cmd

/-- `TXF[k]` (R22). -/
def readTxf (s : State) (k : Nat) : Except Fault Byte :=
  match readReg .txf s.txf with
  | .ok f => framePosition .txf f k
  | .error e => .error e

/-- `RXF[k]` (R23). -/
def readRxf (s : State) (k : Nat) : Except Fault Byte :=
  match readReg .rxf s.rxf with
  | .ok f => framePosition .rxf f k
  | .error e => .error e

def readRxlen (s : State) : Except Fault Nat := readReg .rxlen s.rxlen

def readRes (s : State) : Except Fault Result := readReg .res s.res

def readEncOut (s : State) : Except Fault EncOutcome := readReg .encOut s.encOut

def readDecOut (s : State) : Except Fault DecOutcome := readReg .decOut s.decOut

/-! ### Raising an error, and returning (R15, R27, R165 to R170) -/

/-- `ENCODE` raises `e`: the outcome register is written and the phase ends (R167). No state is saved
and control goes nowhere (R169). -/
def raiseEncoder (e : OpError) (s : State) : State :=
  { s with encPhase := .idle, encOut := some (.error e) }

/-- `DECODE` raises `e` (R167, R169). -/
def raiseDecoder (e : OpError) (s : State) : State :=
  { s with decPhase := .rejected, decOut := some (.error e) }

/-- `ENCODE` returns `Ok(TXF)` (R105). -/
def returnEncoder (f : Bytes) (s : State) : State :=
  { s with encPhase := .idle, encOut := some (.ok f) }

/-- `DECODE` returns `Ok(RES)` and writes `RES` (R26, R120). -/
def returnDecoder (r : Result) (s : State) : State :=
  { s with decPhase := .validated, res := some r, decOut := some (.ok r) }

/-! ### Registers and channel -/

/-- The caller issues `ENCODE` with these operands (R21); `TXF` of an earlier operation holds no value
any more (R34, R103; log 7). -/
def issueCommand (c : Command) (s : State) : State :=
  { s with cmd := some c, txf := none }

/-- `TXF` is written and the one `ChanWrite(TXF)` is made (R22, R24, R45, R104). -/
def startWrite (f : Bytes) (s : State) : State :=
  { s with txf := some f, encPhase := .writing, calls := s.calls ++ [.write f] }

/-- The one `ChanRead(9)` is made (R46, R121); the buffers and `RES` of an earlier operation hold no value
any more (R34; log 7). -/
def startRead (s : State) : State :=
  { s with rxf := none, rxlen := none, res := none, decPhase := .await, calls := s.calls ++ [.read 9] }

/-- Bytes reach the wire (R33, R47). -/
def transmit (b : Bytes) (s : State) : State :=
  { s with txStream := s.txStream ++ b }

/-- `RXF` and `RXLEN` are written from the read's bytes, which are consumed (R23, R47). -/
def receive (b : Bytes) (s : State) : State :=
  { s with rxf := some b, rxlen := some b.length, rxTaken := s.rxTaken ++ b }

/-- The channel's answer ends the write (R24, R104, R105); the frame is read from `TXF`. -/
def finishWrite (a : WriteAnswer) (s : State) : StepResult :=
  match readReg .txf s.txf with
  | .error e => .fault e
  | .ok f =>
    match a with
    | .ok => .next (returnEncoder f (transmit f s))
    | .err e sent => .next (raiseEncoder (.ioError (.writeFailed e)) (transmit (f.take sent) s))

/-- The channel's answer ends the read (R120 to R128). -/
def finishRead (a : ReadAnswer) (s : State) : State :=
  match a with
  | .err e => raiseDecoder (.ioError (.readFailed e)) s
  | .bytes b =>
    match replyOutcome s.config b with
    | .ok r => returnDecoder r (receive b s)
    | .error e => raiseDecoder e (receive b s)

/-- The write waits for the channel: the next answer it draws ends it; with none drawn, the operation
stays in `WRITING` (R47, R104). -/
def awaitWrite (s : State) : StepResult :=
  match s.writeAnswers with
  | [] => .next s
  | a :: rest => finishWrite a { s with writeAnswers := rest }

/-- The read waits for the channel: the next answer it draws ends it; with none drawn, the operation
stays in `AWAIT` (R47, R132). -/
def awaitRead (s : State) : StepResult :=
  match s.readAnswers with
  | [] => .next s
  | a :: rest => .next (finishRead a { s with readAnswers := rest })

/-- An operation runs only with none in flight (R203, `OVERLAP`) and a channel attached (R202). -/
def whenReady (s : State) (run : State → StepResult) : StepResult :=
  if s.busy then .refused .overlap
  else if s.attached then run s
  else .refused .noChannel

/-! ### The two operations (R100, R120) -/

/-- `ENCODE` with its operands checked (R100 steps 2 and 3). -/
def sendCommand (c : Command) (s : State) : StepResult :=
  awaitWrite (startWrite (requestFrame c) s)

/-- `ENCODE` (R100): check, serialize, write. -/
def encodeOp (c : Command) (s : State) : StepResult :=
  whenReady s fun s =>
    match checkCommand s.config c with
    | some e => .next (raiseEncoder e (issueCommand c s))
    | none => sendCommand c (issueCommand c s)

/-- `DECODE` (R120). The answer to its read is `delivered` where the issue names it (log 12), else the
next one the channel draws. -/
def decodeOp (delivered : Option ReadAnswer) (s : State) : StepResult :=
  whenReady s fun s =>
    match delivered with
    | some a => .next (finishRead a (startRead s))
    | none => awaitRead (startRead s)

/-! ### Inputs that are no operation -/

/-- The input at the head is taken. -/
def dropInput (rest : List Input) (s : State) : State :=
  { s with inputs := rest }

/-- The channel answers a write: the one that waits, or else the next one (R47; log 3). -/
def acceptWriteAnswer (a : WriteAnswer) (s : State) : StepResult :=
  match s.encPhase with
  | .writing => finishWrite a s
  | .idle => .next { s with writeAnswers := s.writeAnswers ++ [a] }

/-- The channel answers a read: the one that waits, or else the next one (R47; log 3). -/
def acceptReadAnswer (a : ReadAnswer) (s : State) : StepResult :=
  match s.decPhase with
  | .await => .next (finishRead a s)
  | .idle | .validated | .rejected => .next { s with readAnswers := s.readAnswers ++ [a] }

/-- What an abandoned write had put on the wire: the drawn number of bytes of `TXF` (R201, D18). -/
def abandonedWrite (d : ResetDraw) (s : State) : Bytes :=
  match s.encPhase, s.txf with
  | .writing, some f => f.take d.sent
  | .writing, none => []
  | .idle, _ => []

/-- What an abandoned read had consumed: the drawn bytes (R201, D18). -/
def abandonedRead (d : ResetDraw) (s : State) : Bytes :=
  match s.decPhase with
  | .await => d.lost
  | .idle | .validated | .rejected => []

/-- Reset (R200, R201): the codec's state is as in `State.reset`; the configuration stays and the channel
is not touched, but for what an abandoned operation had done on it. -/
def resetCodec (d : ResetDraw) (s : State) : State :=
  { s with
    cmd := none, txf := none, rxf := none, rxlen := none, encPhase := .idle, decPhase := .idle,
    res := none, encOut := none, decOut := none,
    txStream := s.txStream ++ abandonedWrite d s, rxTaken := s.rxTaken ++ abandonedRead d s }

/-- The caller attaches a channel (R202). -/
def attachChannel (s : State) : State :=
  { s with attached := true }

/-- The refusal of an issue that is no encoding (log 15). -/
def refusalOf : DecodeError → Refusal
  | .operandCount => .operandCount
  | .frameLength => .frameLength

end Sys2Proof.Machine
end

