-- ==== Sys2Proof/Machine/Decoder.lean ====
section
/-! DEFINITION. The meanings of `DECODE` and of its 9 status rows (spec/41_decoder.md R120; R75, R124 to
R127). A status row is `decodeOp` with the reply frame delivered to it. -/

namespace Sys2Proof.Machine

/-- `DECODE` (R120): the channel's answer is the next one it draws. -/
def execDecode (s : State) : StepResult := decodeOp none s

/-- `DECODE` of a delivered reply frame with status 100 (R124). -/
def execDecodeStatus100 (r m e : Byte) (v : Int) (c : Byte) (s : State) : StepResult :=
  decodeOp (some (.bytes (replyFrame ⟨r, m, 100, e, v, c⟩))) s

/-- `DECODE` of a delivered reply frame with status 101 (R125). -/
def execDecodeStatus101 (r m e : Byte) (v : Int) (c : Byte) (s : State) : StepResult :=
  decodeOp (some (.bytes (replyFrame ⟨r, m, 101, e, v, c⟩))) s

/-- `DECODE` of a delivered reply frame with status 1 (R126). -/
def execDecodeStatus1 (r m e : Byte) (v : Int) (c : Byte) (s : State) : StepResult :=
  decodeOp (some (.bytes (replyFrame ⟨r, m, 1, e, v, c⟩))) s

/-- `DECODE` of a delivered reply frame with status 2 (R126). -/
def execDecodeStatus2 (r m e : Byte) (v : Int) (c : Byte) (s : State) : StepResult :=
  decodeOp (some (.bytes (replyFrame ⟨r, m, 2, e, v, c⟩))) s

/-- `DECODE` of a delivered reply frame with status 3 (R126). -/
def execDecodeStatus3 (r m e : Byte) (v : Int) (c : Byte) (s : State) : StepResult :=
  decodeOp (some (.bytes (replyFrame ⟨r, m, 3, e, v, c⟩))) s

/-- `DECODE` of a delivered reply frame with status 4 (R126). -/
def execDecodeStatus4 (r m e : Byte) (v : Int) (c : Byte) (s : State) : StepResult :=
  decodeOp (some (.bytes (replyFrame ⟨r, m, 4, e, v, c⟩))) s

/-- `DECODE` of a delivered reply frame with status 5 (R126). -/
def execDecodeStatus5 (r m e : Byte) (v : Int) (c : Byte) (s : State) : StepResult :=
  decodeOp (some (.bytes (replyFrame ⟨r, m, 5, e, v, c⟩))) s

/-- `DECODE` of a delivered reply frame with status 6 (R126). -/
def execDecodeStatus6 (r m e : Byte) (v : Int) (c : Byte) (s : State) : StepResult :=
  decodeOp (some (.bytes (replyFrame ⟨r, m, 6, e, v, c⟩))) s

/-- `DECODE` of a delivered reply frame with any other status (R127). -/
def execDecodeStatusUnknown (r m st e : Byte) (v : Int) (c : Byte) (s : State) : StepResult :=
  decodeOp (some (.bytes (replyFrame ⟨r, m, st, e, v, c⟩))) s

end Sys2Proof.Machine
end

