-- ==== Sys2Proof/Machine/Encoder.lean ====
section
/-! DEFINITION. The meanings of `ENCODE` and of its 27 named rows (spec/40_encoder.md R100; R70 to R72,
R79). Each is `encodeOp` on the row's command. -/

namespace Sys2Proof.Machine

/-- `ENCODE address, instruction, type, motor, value` (R100). -/
def execEncode (a i t m v : Int) (s : State) : StepResult := encodeOp ⟨a, i, t, m, v⟩ s

/-- `ENCODE` with instruction `ROR` = 1 (R70, R79, R100). -/
def execEncodeRor (a t m v : Int) (s : State) : StepResult :=
  encodeOp ⟨a, opcodeValue .ror, t, m, v⟩ s

/-- `ENCODE` with instruction `ROL` = 2 (R70, R79, R100). -/
def execEncodeRol (a t m v : Int) (s : State) : StepResult :=
  encodeOp ⟨a, opcodeValue .rol, t, m, v⟩ s

/-- `ENCODE` with instruction `MST` = 3 (R70, R79, R100). -/
def execEncodeMst (a t m v : Int) (s : State) : StepResult :=
  encodeOp ⟨a, opcodeValue .mst, t, m, v⟩ s

/-- `ENCODE` with instruction `MVP` = 4 (R70, R79, R100). -/
def execEncodeMvp (a t m v : Int) (s : State) : StepResult :=
  encodeOp ⟨a, opcodeValue .mvp, t, m, v⟩ s

/-- `ENCODE` with instruction `SAP` = 5 (R70, R79, R100). -/
def execEncodeSap (a t m v : Int) (s : State) : StepResult :=
  encodeOp ⟨a, opcodeValue .sap, t, m, v⟩ s

/-- `ENCODE` with instruction `GAP` = 6 (R70, R79, R100). -/
def execEncodeGap (a t m v : Int) (s : State) : StepResult :=
  encodeOp ⟨a, opcodeValue .gap, t, m, v⟩ s

/-- `ENCODE` with instruction `STAP` = 7 (R70, R79, R100). -/
def execEncodeStap (a t m v : Int) (s : State) : StepResult :=
  encodeOp ⟨a, opcodeValue .stap, t, m, v⟩ s

/-- `ENCODE` with instruction `RSAP` = 8 (R70, R79, R100). -/
def execEncodeRsap (a t m v : Int) (s : State) : StepResult :=
  encodeOp ⟨a, opcodeValue .rsap, t, m, v⟩ s

/-- `ENCODE` with instruction `SGP` = 9 (R70, R79, R100). -/
def execEncodeSgp (a t m v : Int) (s : State) : StepResult :=
  encodeOp ⟨a, opcodeValue .sgp, t, m, v⟩ s

/-- `ENCODE` with instruction `GGP` = 10 (R70, R79, R100). -/
def execEncodeGgp (a t m v : Int) (s : State) : StepResult :=
  encodeOp ⟨a, opcodeValue .ggp, t, m, v⟩ s

/-- `ENCODE` with instruction `STGP` = 11 (R70, R79, R100). -/
def execEncodeStgp (a t m v : Int) (s : State) : StepResult :=
  encodeOp ⟨a, opcodeValue .stgp, t, m, v⟩ s

/-- `ENCODE` with instruction `RSGP` = 12 (R70, R79, R100). -/
def execEncodeRsgp (a t m v : Int) (s : State) : StepResult :=
  encodeOp ⟨a, opcodeValue .rsgp, t, m, v⟩ s

/-- `ENCODE` with instruction `RFS` = 13 (R70, R79, R100). -/
def execEncodeRfs (a t m v : Int) (s : State) : StepResult :=
  encodeOp ⟨a, opcodeValue .rfs, t, m, v⟩ s

/-- `ENCODE` with instruction `SIO` = 14 (R70, R79, R100). -/
def execEncodeSio (a t m v : Int) (s : State) : StepResult :=
  encodeOp ⟨a, opcodeValue .sio, t, m, v⟩ s

/-- `ENCODE` with instruction `GIO` = 15 (R70, R79, R100). -/
def execEncodeGio (a t m v : Int) (s : State) : StepResult :=
  encodeOp ⟨a, opcodeValue .gio, t, m, v⟩ s

/-- `ENCODE` with instruction `SCO` = 30 (R70, R79, R100). -/
def execEncodeSco (a t m v : Int) (s : State) : StepResult :=
  encodeOp ⟨a, opcodeValue .sco, t, m, v⟩ s

/-- `ENCODE` with instruction `GCO` = 31 (R70, R79, R100). -/
def execEncodeGco (a t m v : Int) (s : State) : StepResult :=
  encodeOp ⟨a, opcodeValue .gco, t, m, v⟩ s

/-- `ENCODE` with instruction `CCO` = 32 (R70, R79, R100). -/
def execEncodeCco (a t m v : Int) (s : State) : StepResult :=
  encodeOp ⟨a, opcodeValue .cco, t, m, v⟩ s

/-- `ENCODE` with instruction `APPL_STOP` = 128 (R70, R79, R100). -/
def execEncodeApplStop (a t m v : Int) (s : State) : StepResult :=
  encodeOp ⟨a, opcodeValue .applStop, t, m, v⟩ s

/-- `ENCODE` with instruction `APPL_RUN` = 129 (R70, R79, R100). -/
def execEncodeApplRun (a t m v : Int) (s : State) : StepResult :=
  encodeOp ⟨a, opcodeValue .applRun, t, m, v⟩ s

/-- `ENCODE` with instruction `APPL_RESET` = 131 (R70, R79, R100). -/
def execEncodeApplReset (a t m v : Int) (s : State) : StepResult :=
  encodeOp ⟨a, opcodeValue .applReset, t, m, v⟩ s

/-- `ENCODE` with instruction `MVP` and type `MVP.ABS` = 0 (R71, R79, R100). -/
def execEncodeMvpAbs (a m v : Int) (s : State) : StepResult :=
  encodeOp ⟨a, opcodeValue .mvp, subOptionValue .mvpAbs, m, v⟩ s

/-- `ENCODE` with instruction `MVP` and type `MVP.REL` = 1 (R71, R79, R100). -/
def execEncodeMvpRel (a m v : Int) (s : State) : StepResult :=
  encodeOp ⟨a, opcodeValue .mvp, subOptionValue .mvpRel, m, v⟩ s

/-- `ENCODE` with instruction `MVP` and type `MVP.COORD` = 2 (R71, R79, R100). -/
def execEncodeMvpCoord (a m v : Int) (s : State) : StepResult :=
  encodeOp ⟨a, opcodeValue .mvp, subOptionValue .mvpCoord, m, v⟩ s

/-- `ENCODE` with instruction `RFS` and type `RFS.START` = 0 (R72, R79, R100). -/
def execEncodeRfsStart (a m v : Int) (s : State) : StepResult :=
  encodeOp ⟨a, opcodeValue .rfs, subOptionValue .rfsStart, m, v⟩ s

/-- `ENCODE` with instruction `RFS` and type `RFS.STOP` = 1 (R72, R79, R100). -/
def execEncodeRfsStop (a m v : Int) (s : State) : StepResult :=
  encodeOp ⟨a, opcodeValue .rfs, subOptionValue .rfsStop, m, v⟩ s

/-- `ENCODE` with instruction `RFS` and type `RFS.STATUS` = 2 (R72, R79, R100). -/
def execEncodeRfsStatus (a m v : Int) (s : State) : StepResult :=
  encodeOp ⟨a, opcodeValue .rfs, subOptionValue .rfsStatus, m, v⟩ s

end Sys2Proof.Machine
end

