-- ==== Sys2Proof/Machine/Dispatch.lean ====
section
/-! DEFINITION. One arm for each constructor of `Instr`, each a direct call of the instruction's own
meaning. -/

namespace Sys2Proof.Machine

def exec (i : Instr) (s : State) : Host.Outcome State Fault Refusal :=
  match i with
  | .encode a i' t m v => Sys2Proof.Machine.execEncode a i' t m v s
  | .decode => Sys2Proof.Machine.execDecode s
  | .encodeRor a t m v => Sys2Proof.Machine.execEncodeRor a t m v s
  | .encodeRol a t m v => Sys2Proof.Machine.execEncodeRol a t m v s
  | .encodeMst a t m v => Sys2Proof.Machine.execEncodeMst a t m v s
  | .encodeMvp a t m v => Sys2Proof.Machine.execEncodeMvp a t m v s
  | .encodeSap a t m v => Sys2Proof.Machine.execEncodeSap a t m v s
  | .encodeGap a t m v => Sys2Proof.Machine.execEncodeGap a t m v s
  | .encodeStap a t m v => Sys2Proof.Machine.execEncodeStap a t m v s
  | .encodeRsap a t m v => Sys2Proof.Machine.execEncodeRsap a t m v s
  | .encodeSgp a t m v => Sys2Proof.Machine.execEncodeSgp a t m v s
  | .encodeGgp a t m v => Sys2Proof.Machine.execEncodeGgp a t m v s
  | .encodeStgp a t m v => Sys2Proof.Machine.execEncodeStgp a t m v s
  | .encodeRsgp a t m v => Sys2Proof.Machine.execEncodeRsgp a t m v s
  | .encodeRfs a t m v => Sys2Proof.Machine.execEncodeRfs a t m v s
  | .encodeSio a t m v => Sys2Proof.Machine.execEncodeSio a t m v s
  | .encodeGio a t m v => Sys2Proof.Machine.execEncodeGio a t m v s
  | .encodeSco a t m v => Sys2Proof.Machine.execEncodeSco a t m v s
  | .encodeGco a t m v => Sys2Proof.Machine.execEncodeGco a t m v s
  | .encodeCco a t m v => Sys2Proof.Machine.execEncodeCco a t m v s
  | .encodeApplStop a t m v => Sys2Proof.Machine.execEncodeApplStop a t m v s
  | .encodeApplRun a t m v => Sys2Proof.Machine.execEncodeApplRun a t m v s
  | .encodeApplReset a t m v => Sys2Proof.Machine.execEncodeApplReset a t m v s
  | .encodeMvpAbs a m v => Sys2Proof.Machine.execEncodeMvpAbs a m v s
  | .encodeMvpRel a m v => Sys2Proof.Machine.execEncodeMvpRel a m v s
  | .encodeMvpCoord a m v => Sys2Proof.Machine.execEncodeMvpCoord a m v s
  | .encodeRfsStart a m v => Sys2Proof.Machine.execEncodeRfsStart a m v s
  | .encodeRfsStop a m v => Sys2Proof.Machine.execEncodeRfsStop a m v s
  | .encodeRfsStatus a m v => Sys2Proof.Machine.execEncodeRfsStatus a m v s
  | .decodeStatus100 r m e v c => Sys2Proof.Machine.execDecodeStatus100 r m e v c s
  | .decodeStatus101 r m e v c => Sys2Proof.Machine.execDecodeStatus101 r m e v c s
  | .decodeStatus1 r m e v c => Sys2Proof.Machine.execDecodeStatus1 r m e v c s
  | .decodeStatus2 r m e v c => Sys2Proof.Machine.execDecodeStatus2 r m e v c s
  | .decodeStatus3 r m e v c => Sys2Proof.Machine.execDecodeStatus3 r m e v c s
  | .decodeStatus4 r m e v c => Sys2Proof.Machine.execDecodeStatus4 r m e v c s
  | .decodeStatus5 r m e v c => Sys2Proof.Machine.execDecodeStatus5 r m e v c s
  | .decodeStatus6 r m e v c => Sys2Proof.Machine.execDecodeStatus6 r m e v c s
  | .decodeStatusUnknown r m st e v c => Sys2Proof.Machine.execDecodeStatusUnknown r m st e v c s

end Sys2Proof.Machine
end

