-- ==== Sys2Proof/Machine/Step.lean ====
section
/-! DEFINITION. One step: the outside world's next input, and what the codec makes of it. -/

namespace Sys2Proof.Machine

/-- One step (R7, R8). An issue runs as one operation up to the channel's answer; the channel's answer ends
an operation that waits. With no input nothing changes: an idle codec stays idle, a waiting one waits (R47;
log 18). -/
def step (s : State) : Host.Outcome State Fault Refusal :=
  match s.inputs with
  | [] => .next s
  | .issue p :: rest =>
    match decode p with
    | .ok i => exec i (dropInput rest s)
    | .error e => .refused (refusalOf e)
  | .writeAnswer a :: rest => acceptWriteAnswer a (dropInput rest s)
  | .readAnswer a :: rest => acceptReadAnswer a (dropInput rest s)
  | .reset d :: rest => .next (resetCodec d (dropInput rest s))
  | .attachChannel :: rest => .next (attachChannel (dropInput rest s))

/-- `s` with an operation of the opcode table presented next: the input that the next step takes
(log 4, log 6). -/
def State.withFetchWord (s : State) (nbits w : Nat) : State :=
  { s with inputs := .issue (tableIssue nbits w) :: s.inputs }

end Sys2Proof.Machine
end

