-- ==== Sys2Proof/Machine/Assembler.lean ====
section
/-! DEFINITION. The assembler notation of spec/30_encoding.md R79: a program text as a list of issues.
There are no pseudo-instructions (R80). Points R79 leaves open are named in log 17. -/

namespace Sys2Proof.Machine

/-- R79's third kind of operand: an instruction mnemonic written bare, or a qualified sub-option. -/
def symbolValue : List Char → Option Nat
  | s =>
    (symbolTable.find? fun row => row.1.toList == s).map Prod.snd
where
  symbolTable : List (String × Nat) :=
    [("ROR", opcodeValue .ror), ("ROL", opcodeValue .rol), ("MST", opcodeValue .mst),
      ("MVP", opcodeValue .mvp), ("SAP", opcodeValue .sap), ("GAP", opcodeValue .gap),
      ("STAP", opcodeValue .stap), ("RSAP", opcodeValue .rsap), ("SGP", opcodeValue .sgp),
      ("GGP", opcodeValue .ggp), ("STGP", opcodeValue .stgp), ("RSGP", opcodeValue .rsgp)]
      ++ [("RFS", opcodeValue .rfs), ("SIO", opcodeValue .sio), ("GIO", opcodeValue .gio),
        ("SCO", opcodeValue .sco), ("GCO", opcodeValue .gco), ("CCO", opcodeValue .cco),
        ("APPL_STOP", opcodeValue .applStop), ("APPL_RUN", opcodeValue .applRun),
        ("APPL_RESET", opcodeValue .applReset)]
      ++ [("MVP.ABS", subOptionValue .mvpAbs), ("MVP.REL", subOptionValue .mvpRel),
        ("MVP.COORD", subOptionValue .mvpCoord), ("RFS.START", subOptionValue .rfsStart),
        ("RFS.STOP", subOptionValue .rfsStop), ("RFS.STATUS", subOptionValue .rfsStatus)]

/-- The value of a digit character in a base of at most 16. -/
def digitValue (base : Nat) (c : Char) : Option Nat :=
  let d :=
    if '0' ≤ c ∧ c ≤ '9' then some (c.toNat - 48)
    else if 'A' ≤ c ∧ c ≤ 'F' then some (c.toNat - 55)
    else if 'a' ≤ c ∧ c ≤ 'f' then some (c.toNat - 87)
    else none
  d.filter (· < base)

/-- A numeral with at least one digit, most significant first. -/
def numeral (base : Nat) : List Char → Option Nat
  | [] => none
  | ds => ds.foldl (fun acc c => acc.bind fun n => (digitValue base c).map (n * base + ·)) (some 0)

/-- One operand of R79. It is not range-checked. -/
def operandValue : List Char → Option Int
  | '-' :: ds => (numeral 10 ds).map fun n => -(n : Int)
  | '0' :: 'x' :: ds => (numeral 16 ds).map Int.ofNat
  | s => ((numeral 10 s).orElse fun _ => symbolValue s).map Int.ofNat

/-- The text before the comment that `;` starts. -/
def stripComment (line : List Char) : List Char := line.takeWhile (· != ';')

/-- Blanks separate words, and a comma is a word of its own. -/
def wordsOf : List Char → List Char → List (List Char)
  | acc, [] => if acc.isEmpty then [] else [acc.reverse]
  | acc, c :: cs =>
    if c == ' ' || c == '\t' || c == '\r' then
      if acc.isEmpty then wordsOf [] cs else acc.reverse :: wordsOf [] cs
    else if c == ',' then
      if acc.isEmpty then [','] :: wordsOf [] cs else acc.reverse :: [','] :: wordsOf [] cs
    else wordsOf (c :: acc) cs

/-- Operands separated by commas. -/
def operandList : List (List Char) → Option (List Int)
  | [] => some []
  | [w] => (operandValue w).map fun v => [v]
  | w :: [','] :: rest =>
    match operandValue w, operandList rest with
    | some v, some (u :: us) => some (v :: u :: us)
    | _, _ => none
  | _ :: _ :: _ => none

/-- A line that names an operation stands for `OP` and its operand tuple (R60, R79). -/
def issueOfWords : List (List Char) → Option Issue
  | ['E', 'N', 'C', 'O', 'D', 'E'] :: ws =>
    match operandList ws with
    | some [a, i, t, m, v] => some (.select 0 [a, i, t, m, v])
    | _ => none
  | [['D', 'E', 'C', 'O', 'D', 'E']] => some (.select 1 [])
  | _ => none

/-- The lines of a program that hold more than a comment, each as an issue; `none` where a line is neither
operation. -/
def assembleLines : List (List Char) → Option (List Issue)
  | [] => some []
  | line :: rest =>
    match wordsOf [] (stripComment line) with
    | [] => assembleLines rest
    | ws =>
      match issueOfWords ws, assembleLines rest with
      | some p, some ps => some (p :: ps)
      | _, _ => none

/-- The lines of a text. -/
def linesOf : List Char → List Char → List (List Char)
  | acc, [] => [acc.reverse]
  | acc, c :: cs => if c == '\n' then acc.reverse :: linesOf [] cs else linesOf (c :: acc) cs

/-- A program text (R79). -/
def assemble (text : String) : Option (List Issue) := assembleLines (linesOf [] text.toList)

end Sys2Proof.Machine
end

