-- ==== Sys2Proof/Safety.lean ====
section
/-! DEFINITION. What counts as a safe step, and the invariant of the codec's state, in the terms the
statements use (spec/10_state.md, spec/60_exceptions.md). -/

namespace Sys2Proof.Machine

/-- The machine did not stop. -/
def Completes (o : StepResult) : Prop := ∃ t, o = .next t

/-- The machine did not fault: it never read a register that holds no value (R34). -/
def NoFault (o : StepResult) : Prop := ∀ r, o ≠ .fault r

/-- Operands that `ENCODE` serializes (R21, R73, R101, R102), written out from those rules. -/
def LegalCommand (cfg : Config) (c : Command) : Prop :=
  (0 ≤ c.address ∧ c.address ≤ 255) ∧ (0 ≤ c.instruction ∧ c.instruction ≤ 255) ∧
  (0 ≤ c.type ∧ c.type ≤ 255) ∧ (0 ≤ c.motor ∧ c.motor ≤ 255) ∧
  (-2147483648 ≤ c.value ∧ c.value ≤ 2147483647) ∧
  (cfg.strictInstruction = true → c.instruction ∈
    [1, 2, 3, 4, 5, 6, 7, 8, 9, 10, 11, 12, 13, 14, 15, 30, 31, 32, 128, 129, 131])

/-- A state in which an operation runs: none in flight (R203) and a channel attached (R202). -/
def Ready (s : State) : Prop := s.encPhase ≠ .writing ∧ s.decPhase ≠ .await ∧ s.attached = true

/-- A frame of R61 with R65's checksum. -/
def SoundFrame (f : Bytes) : Prop := f.length = 9 ∧ wellChecksummed f = true

/-- A `ContractViolation` payload says what is wrong with the operand (R161). -/
def SoundViolation (cfg : Config) (v : Int) : Field → Reason → Prop
  | .value, .outOfRange => ¬(-2147483648 ≤ v ∧ v ≤ 2147483647)
  | .instruction, .notEnumerated =>
    cfg.strictInstruction = true ∧ (0 ≤ v ∧ v ≤ 255) ∧
      v ∉ [1, 2, 3, 4, 5, 6, 7, 8, 9, 10, 11, 12, 13, 14, 15, 30, 31, 32, 128, 129, 131]
  | .address, .outOfRange | .instruction, .outOfRange | .type, .outOfRange | .motor, .outOfRange =>
    ¬(0 ≤ v ∧ v ≤ 255)
  | .address, .notEnumerated | .type, .notEnumerated | .motor, .notEnumerated
  | .value, .notEnumerated => False

/-- The outcomes `ENCODE` has (R100, R160 to R162). -/
def SoundEncOutcome (cfg : Config) : EncOutcome → Prop
  | .ok f => SoundFrame f
  | .error (.contractViolation f v r) => SoundViolation cfg v f r
  | .error (.ioError (.writeFailed _)) => True
  | .error (.ioError (.readFailed _)) | .error (.ioError (.shortRead _))
  | .error (.ioError (.lengthMismatch _)) => False
  | .error (.checksumError _ _) | .error (.protocolError _ _) => False

/-- `RES` as R26 describes it. -/
def SoundResult (r : Result) : Prop :=
  (r.status = 100 ∧ r.stored = false ∨ r.status = 101 ∧ r.stored = true) ∧
  -2147483648 ≤ r.value ∧ r.value ≤ 2147483647

/-- A `ProtocolError` payload (R164). -/
def SoundProtocolError (cfg : Config) (code : Byte) (message : String) : Prop :=
  code ≠ 100 ∧ code ≠ 101 ∧
  (code ∈ [(1 : Byte), 2, 3, 4, 5, 6] → statusMessage code = some message) ∧
  (code ∉ [(1 : Byte), 2, 3, 4, 5, 6] → message = cfg.unknownStatusMessage)

/-- The outcomes `DECODE` has (R120, R160 to R164). -/
def SoundDecOutcome (cfg : Config) : DecOutcome → Prop
  | .ok r => SoundResult r
  | .error (.ioError (.readFailed _)) => True
  | .error (.ioError (.shortRead n)) => n ≤ 8
  | .error (.ioError (.lengthMismatch n)) => 10 ≤ n
  | .error (.ioError (.writeFailed _)) => False
  | .error (.checksumError received computed) => received ≠ computed
  | .error (.protocolError code message) => SoundProtocolError cfg code message
  | .error (.contractViolation _ _ _) => False

/-- The invariant of the codec's state. -/
structure State.Inv (s : State) : Prop where
  /-- Two operations never overlap (R53). -/
  oneInFlight : ¬(s.encPhase = .writing ∧ s.decPhase = .await)
  /-- While an operation waits, the channel has no answer for it yet (R47). -/
  writeUnanswered : s.encPhase = .writing → s.writeAnswers = []
  readUnanswered : s.decPhase = .await → s.readAnswers = []
  /-- `TXF` is the request frame of `CMD`, whose operands passed the checks (R22, R103). -/
  txfOfCmd : ∀ f, s.txf = some f →
    SoundFrame f ∧ ∃ c, s.cmd = some c ∧ LegalCommand s.config c ∧ f = requestFrame c
  /-- `ChanWrite` reads a `TXF` that was written (R34). -/
  writingHasFrame : s.encPhase = .writing → ∃ f, s.txf = some f
  /-- `RXLEN = len(RXF)` (R23). -/
  rxlenOfRxf : s.rxlen = s.rxf.map List.length
  /-- The current `DECODE` has written nothing while it waits (R34, R120). -/
  awaitClear : s.decPhase = .await → s.rxf = none ∧ s.res = none
  /-- `RES` holds a value exactly after `VALIDATED` (R26, R34). -/
  resValidated : s.res ≠ none → s.decPhase = .validated
  /-- `VALIDATED`: `RES`, `DEC_OUT` and `RXF` agree (R26, R27, R120). -/
  validated : s.decPhase = .validated → ∃ r b,
    s.res = some r ∧ s.decOut = some (.ok r) ∧ s.rxf = some b ∧ replyOutcome s.config b = .ok r
  /-- `REJECTED`: the outcome is an error (R132). -/
  rejected : s.decPhase = .rejected → ∃ e, s.decOut = some (.error e)
  encOutcome : ∀ o, s.encOut = some o → SoundEncOutcome s.config o
  decOutcome : ∀ o, s.decOut = some o → SoundDecOutcome s.config o

end Sys2Proof.Machine
end

