-- ==== Sys2Proof/Certificates/Slice0/Obligations.lean ====
section
/-! DEFINITION. The statements for the provers, from the numbered rules of spec/. -/

open Sys2Proof Sys2Proof.Machine

/-! ### Frame formats and encodings -/

/-- R65: the checksum of eight bytes is their unsigned sum modulo 256, of a sum of at most 2040; it is the last
byte of a request frame, and a reply frame is held to the same one; a 9-byte sequence is well-checksummed when
its last byte is that; and the two examples of the rule. -/
def Obligations.ChecksumIsUnsignedByteSumMod256 : Prop :=
  (∀ b0 b1 b2 b3 b4 b5 b6 b7 b8 : Byte,
    let sum := b0.toNat + b1.toNat + b2.toNat + b3.toNat + b4.toNat + b5.toNat + b6.toNat + b7.toNat
    sum ≤ 2040 ∧ (checksum8 [b0, b1, b2, b3, b4, b5, b6, b7]).toNat = sum % 256 ∧
    (wellChecksummed [b0, b1, b2, b3, b4, b5, b6, b7, b8] = true ↔ b8.toNat = sum % 256)) ∧
  (∀ c : Command, (requestFrame c)[8]? = some (checksum8 ((requestFrame c).take 8))) ∧
  (∀ (cfg : Config) (f : Bytes), f.length = 9 →
    ((∃ received computed, replyOutcome cfg f = .error (.checksumError received computed)) ↔
      wellChecksummed f = false)) ∧
  checksum8 [0x01, 0x04, 0, 0, 0, 0, 0x03, 0xE8] = 0xF0 ∧
  checksum8 [0xFF, 0xFF, 0xFF, 0xFF, 0xFF, 0xFF, 0xFF, 0xFF] = 0xF8

/-- R66: the packed value is the four bytes, most significant first, of the value modulo 2^32; and the
examples of the rule. -/
def Obligations.ValuePacksToBigEndianTwosComplement : Prop :=
  (∀ v : Int, -2147483648 ≤ v → v ≤ 2147483647 → ∃ b4 b5 b6 b7 : Byte,
    bePack32 v = [b4, b5, b6, b7] ∧
    (b4.toNat : Int) * 16777216 + b5.toNat * 65536 + b6.toNat * 256 + b7.toNat = v % 4294967296) ∧
  bePack32 1000 = [0x00, 0x00, 0x03, 0xE8] ∧ bePack32 (-1) = [0xFF, 0xFF, 0xFF, 0xFF] ∧
  bePack32 (-1000) = [0xFF, 0xFF, 0xFC, 0x18] ∧
  bePack32 (-2147483648) = [0x80, 0x00, 0x00, 0x00] ∧
  bePack32 2147483647 = [0x7F, 0xFF, 0xFF, 0xFF]

/-- R67 (which the spec marks as derived): unpacking is the signed reading of the big-endian four bytes,
its result is in `i32`, and packing and unpacking are inverse to each other. -/
def Obligations.ValuePackingIsABijection : Prop :=
  (∀ b4 b5 b6 b7 : Byte,
    let u : Nat := ((b4.toNat * 256 + b5.toNat) * 256 + b6.toNat) * 256 + b7.toNat
    (u < 2147483648 → beUnpack32 b4 b5 b6 b7 = u) ∧
    (2147483648 ≤ u → beUnpack32 b4 b5 b6 b7 = (u : Int) - 4294967296) ∧
    -2147483648 ≤ beUnpack32 b4 b5 b6 b7 ∧ beUnpack32 b4 b5 b6 b7 ≤ 2147483647 ∧
    bePack32 (beUnpack32 b4 b5 b6 b7) = [b4, b5, b6, b7]) ∧
  ∀ v : Int, -2147483648 ≤ v → v ≤ 2147483647 → ∀ b4 b5 b6 b7 : Byte,
    bePack32 v = [b4, b5, b6, b7] → beUnpack32 b4 b5 b6 b7 = v

/-- R63: the request frame of operands in range, byte by byte as unsigned integers. -/
def Obligations.RequestFrameBytesAreFieldsValueAndChecksum : Prop :=
  ∀ (cfg : Config) (c : Command), LegalCommand cfg c →
    let u := c.value % 4294967296
    let fields := [c.address, c.instruction, c.type, c.motor,
      u / 16777216, u / 65536 % 256, u / 256 % 256, u % 256]
    (requestFrame c).map (fun b => (b.toNat : Int)) = fields ++ [fields.sum % 256]

/-- R108 (derived by the spec): the request frame of legal operands is well-checksummed, and it determines
every operand. -/
def Obligations.RequestFrameIsSoundAndInjective : Prop :=
  ∀ (cfg : Config) (c d : Command), LegalCommand cfg c → LegalCommand cfg d →
    SoundFrame (requestFrame c) ∧ (requestFrame c = requestFrame d → c = d)

/-- R12 (the spec's notation, D21): frame words and 9-byte sequences correspond, byte 0 most significant. -/
def Obligations.FrameWordsAndFramesCorrespond : Prop :=
  (∀ w : Nat, w < 4722366482869645213696 → (frameOfWord w).length = 9 ∧ frameWord (frameOfWord w) = w) ∧
  (∀ f : Bytes, f.length = 9 → frameOfWord (frameWord f) = f) ∧
  ∀ (f : Bytes) (k : Nat) (b : Byte), f.length = 9 → f[k]? = some b →
    frameWord f / 256 ^ (8 - k) % 256 = b.toNat

/-- R75: the codes, their classes and their exact messages, as payloads of the outcome; every other code is
unknown and carries the configured message with the raw code. -/
def Obligations.StatusClassesAndMessagesAreAsListed : Prop :=
  (∀ s : Byte,
    (statusClass s = .success ↔ s.toNat = 100) ∧ (statusClass s = .successStored ↔ s.toNat = 101) ∧
    (statusClass s = .mappedError ↔ s.toNat ∈ [1, 2, 3, 4, 5, 6]) ∧
    (statusClass s = .unknown ↔ s.toNat ∉ [1, 2, 3, 4, 5, 6, 100, 101])) ∧
  (successMessage 100 = some "Successfully executed, no error" ∧
    successMessage 101 = some "Command loaded into TMCL program EEPROM") ∧
  ∀ (cfg : Config) (r : Reply),
    ((∃ res, statusOutcome cfg r = .ok res) ↔ r.status.toNat = 100 ∨ r.status.toNat = 101) ∧
    (r.status.toNat = 1 → statusOutcome cfg r = .error (.protocolError 1 "Wrong checksum")) ∧
    (r.status.toNat = 2 → statusOutcome cfg r = .error (.protocolError 2 "Invalid command")) ∧
    (r.status.toNat = 3 → statusOutcome cfg r = .error (.protocolError 3 "Wrong type")) ∧
    (r.status.toNat = 4 → statusOutcome cfg r = .error (.protocolError 4 "Invalid value")) ∧
    (r.status.toNat = 5 →
      statusOutcome cfg r = .error (.protocolError 5 "Configuration EEPROM locked")) ∧
    (r.status.toNat = 6 → statusOutcome cfg r = .error (.protocolError 6 "Command not available")) ∧
    (r.status.toNat ∉ [1, 2, 3, 4, 5, 6, 100, 101] →
      statusOutcome cfg r = .error (.protocolError r.status cfg.unknownStatusMessage))

/-- R122: parsing takes the fields of a 9-byte sequence in order, the one-byte fields unsigned and the value
signed; it cannot fail, so no 9-byte answer makes `DECODE` raise an `IOError`. -/
def Obligations.ParsingTakesTheFieldsInOrder : Prop :=
  (∀ b0 b1 b2 b3 b4 b5 b6 b7 b8 : Byte,
    let u : Int := b4.toNat * 16777216 + b5.toNat * 65536 + b6.toNat * 256 + b7.toNat
    parseReply [b0, b1, b2, b3, b4, b5, b6, b7, b8] =
      some ⟨b0, b1, b2, b3, if 2147483648 ≤ u then u - 4294967296 else u, b8⟩) ∧
  ∀ f : Bytes, f.length = 9 → (∃ r, parseReply f = some r) ∧
    ∀ (cfg : Config) (k : IOErrorKind), replyOutcome cfg f ≠ .error (.ioError k)

/-! ### Decode and encode of operations -/

/-- Every well-formed instruction is what the decoder reads from its encoding, with every operand at every
value the encoding admits. The word forms of the named rows are the model's choice (log 5). -/
def Obligations.DecodeOfEncodeIsTheInstruction : Prop :=
  ∀ i : Instr, i.wellFormed = true → decode (encode i) = .ok i

/-- The other direction: an issue that decodes is the encoding of what it decodes to; of request words this
holds where the instruction byte is one of R70's and the checksum byte is R65's (log 5). -/
def Obligations.EncodeOfDecodeIsTheIssue : Prop :=
  ∀ (p : Issue) (i : Instr), decode p = .ok i →
    i.wellFormed = true ∧
    ((∀ f, p = .request f → wellChecksummed f = true ∧
      ∃ b, f[1]? = some b ∧ b.toNat ∈
        [1, 2, 3, 4, 5, 6, 7, 8, 9, 10, 11, 12, 13, 14, 15, 30, 31, 32, 128, 129, 131]) →
      encode i = p)

/-- R60 and R61: an issue is rejected exactly where `OP` comes with another number of operands than its
operation has, or a frame word has not 9 bytes; the rejection by name is the model's choice (log 15). -/
def Obligations.DecodeRejectsOnlyWrongCounts : Prop :=
  (∀ (op : BitVec 1) (l : List Int),
    decode (.select op l) = .error .operandCount ↔
      ¬(op = 0#1 ∧ l.length = 5) ∧ ¬(op = 1#1 ∧ l.length = 0)) ∧
  (∀ f : Bytes, decode (.request f) = .error .frameLength ↔ f.length ≠ 9) ∧
  (∀ f : Bytes, decode (.reply f) = .error .frameLength ↔ f.length ≠ 9) ∧
  ∀ f : Bytes, f.length = 9 →
    (∃ i, decode (.request f) = .ok i) ∧ ∃ i, decode (.reply f) = .ok i

/-- A few words written out from the opcode table and R62, R64 decode to the operation they stand for. The
numbering of the words is the model's (log 6). -/
def Obligations.WrittenOutWordsDecode : Prop :=
  decode (.select 0 [1, 4, 0, 0, 1000]) = .ok (.encode 1 4 0 0 1000) ∧
  decode (.select 1 []) = .ok .decode ∧
  decode (.request [0x01, 0x05, 0x04, 0x00, 0x00, 0x00, 0xC8, 0x00, 0xD2]) =
    .ok (.encodeSap 1 4 0 51200) ∧
  decode (.request [0x01, 0x04, 0x01, 0x00, 0xFF, 0xFF, 0xFC, 0x18, 0x18]) =
    .ok (.encodeMvpRel 1 0 (-1000)) ∧
  decode (.reply [0x02, 0x01, 0x64, 0x06, 0xFF, 0xFF, 0xFC, 0x18, 0x7F]) =
    .ok (.decodeStatus100 2 1 6 (-1000) 0x7F) ∧
  decode (.reply [0x02, 0x01, 0xC8, 0x06, 0x00, 0x00, 0x00, 0x00, 0xD1]) =
    .ok (.decodeStatusUnknown 2 1 200 6 0 0xD1) ∧
  decodeTableWord 8 0 = some (.encode 0 0 0 0 0) ∧ decodeTableWord 8 1 = some .decode ∧
  decodeTableWord 72 0x000300000000000000 = some (.encodeMst 0 0 0 0) ∧
  decodeTableWord 72 0x000005000000000000 = some (.decodeStatus5 0 0 0 0 0)

/-- R79 (the spec's choice D21): a symbol is only a numeral, and the worked lines assemble to `OP` and its
operand tuple. -/
def Obligations.AssemblySymbolsAreNumerals : Prop :=
  assemble "ENCODE 1, MVP, MVP.ABS, 0, 1000 ; a comment" = some [.select 0 [1, 4, 0, 0, 1000]] ∧
  assemble "ENCODE 1, 4, 0, 0, 1000" = assemble "ENCODE 1, MVP, MVP.ABS, 0, 1000" ∧
  assemble "DECODE" = some [.select 1 []] ∧
  assemble "ENCODE -1, 0x10, RFS.STATUS, APPL_RESET, -2147483649" =
    some [.select 0 [-1, 16, 2, 131, -2147483649]]

/-! ### ENCODE -/

/-- R100, R104 and R105 (the spec's choices D8, D30 among them): on operands that pass, with the channel's
next answer `ok`, `ENCODE` writes `TXF`, hands its 9 bytes to the channel in one write and returns
`Ok(TXF)`. -/
def Obligations.EncodeWritesItsFrameAndReturnsOk : Prop :=
  ∀ (s : State) (a i t m v : Int) (rest : List WriteAnswer),
    Ready s → LegalCommand s.config ⟨a, i, t, m, v⟩ → s.writeAnswers = .ok :: rest →
    exec (.encode a i t m v) s = .next { s with
      cmd := some ⟨a, i, t, m, v⟩
      txf := some (requestFrame ⟨a, i, t, m, v⟩)
      encPhase := .idle
      encOut := some (.ok (requestFrame ⟨a, i, t, m, v⟩))
      txStream := s.txStream ++ requestFrame ⟨a, i, t, m, v⟩
      calls := s.calls ++ [.write (requestFrame ⟨a, i, t, m, v⟩)]
      writeAnswers := rest }

/-- R104 (D8, D19): on a failed write `ENCODE` raises `IOError(WRITE_FAILED(e))` with the channel's `e`
unchanged; the drawn number of bytes had reached the wire; there is no second write. -/
def Obligations.EncodeRaisesWriteFailedUnchanged : Prop :=
  ∀ (s : State) (a i t m v : Int) (e : ChanErr) (n : Nat) (rest : List WriteAnswer),
    Ready s → LegalCommand s.config ⟨a, i, t, m, v⟩ → s.writeAnswers = .err e n :: rest →
    exec (.encode a i t m v) s = .next { s with
      cmd := some ⟨a, i, t, m, v⟩
      txf := some (requestFrame ⟨a, i, t, m, v⟩)
      encPhase := .idle
      encOut := some (.error (.ioError (.writeFailed e)))
      txStream := s.txStream ++ (requestFrame ⟨a, i, t, m, v⟩).take n
      calls := s.calls ++ [.write (requestFrame ⟨a, i, t, m, v⟩)]
      writeAnswers := rest }

/-- R104 and R47 (D20): while the channel has not answered, `ENCODE` stays in `WRITING` with `TXF` handed
over, and `ENC_OUT` still holds the earlier outcome (R27). That `TX_STREAM` is unchanged meanwhile, bytes
appearing in it only at the answer, is the model's choice (log 9). -/
def Obligations.EncodeWaitsInWriting : Prop :=
  ∀ (s : State) (a i t m v : Int),
    Ready s → LegalCommand s.config ⟨a, i, t, m, v⟩ → s.writeAnswers = [] →
    exec (.encode a i t m v) s = .next { s with
      cmd := some ⟨a, i, t, m, v⟩
      txf := some (requestFrame ⟨a, i, t, m, v⟩)
      encPhase := .writing
      calls := s.calls ++ [.write (requestFrame ⟨a, i, t, m, v⟩)] }

/-- R101 and R102 (the spec's choices D3 to D6): the first failing check in the fixed order, and only it, is
the `ContractViolation` reported; nothing but `CMD`, `TXF` and `ENC_OUT` changes. -/
def Obligations.EncodeReportsFirstFailingCheck : Prop :=
  ∀ (s : State) (a i t m v : Int), Ready s →
    let violates (fld : Field) (offered : Int) (why : Reason) : Prop :=
      exec (.encode a i t m v) s = .next { s with
        cmd := some ⟨a, i, t, m, v⟩
        txf := none
        encPhase := .idle
        encOut := some (.error (.contractViolation fld offered why)) }
    let u8 (x : Int) : Prop := 0 ≤ x ∧ x ≤ 255
    let listed : Prop := i ∈ [1, 2, 3, 4, 5, 6, 7, 8, 9, 10, 11, 12, 13, 14, 15, 30, 31, 32, 128, 129, 131]
    let enum : Prop := s.config.strictInstruction = false ∨ listed
    (¬u8 a → violates .address a .outOfRange) ∧
    (u8 a → ¬u8 i → violates .instruction i .outOfRange) ∧
    (u8 a → u8 i → ¬enum → violates .instruction i .notEnumerated) ∧
    (u8 a → u8 i → enum → ¬u8 t → violates .type t .outOfRange) ∧
    (u8 a → u8 i → enum → u8 t → ¬u8 m → violates .motor m .outOfRange) ∧
    (u8 a → u8 i → enum → u8 t → u8 m → ¬(-2147483648 ≤ v ∧ v ≤ 2147483647) →
      violates .value v .outOfRange)

/-- R103: whichever `ENCODE` row raises a `ContractViolation`, nothing is written to the channel, the
encoder never enters `WRITING`, and `TXF` holds no value. -/
def Obligations.ContractViolationMakesNoChannelAccess : Prop :=
  ∀ (i : Instr) (c : Command) (s : State), commandOf i = some c → Ready s → ¬LegalCommand s.config c →
    ∃ (t : State) (fld : Field) (offered : Int) (why : Reason), exec i s = .next t ∧
      t.encOut = some (.error (.contractViolation fld offered why)) ∧
      t.encPhase = .idle ∧ t.txf = none ∧ t.txStream = s.txStream ∧ t.calls = s.calls ∧
      t.writeAnswers = s.writeAnswers

/-- R106: `TXF` is a function of the five operands alone; it depends on no earlier operation, on no channel
answer, and on the configuration only through the strict check, which decides whether there is a frame. -/
def Obligations.TxfIsAFunctionOfTheOperands : Prop :=
  ∀ (s₁ s₂ : State) (c : Command), Ready s₁ → Ready s₂ →
    LegalCommand s₁.config c → LegalCommand s₂.config c →
    ∃ t₁ t₂ f,
      exec (.encode c.address c.instruction c.type c.motor c.value) s₁ = .next t₁ ∧
      exec (.encode c.address c.instruction c.type c.motor c.value) s₂ = .next t₂ ∧
      t₁.txf = some f ∧ t₂.txf = some f

/-- R107: bytes 0 to 3 of the frame are the operands unchanged, and no value of `instruction` changes what the
codec does: two legal values leave the same state but for the operand and the frame. -/
def Obligations.InstructionValueChangesOnlyTheFrame : Prop :=
  ∀ (s : State) (a i j t m v : Int), Ready s →
    LegalCommand s.config ⟨a, i, t, m, v⟩ → LegalCommand s.config ⟨a, j, t, m, v⟩ →
    ∃ t₁ t₂ f g b0 b1 b2 b3 rest,
      exec (.encode a i t m v) s = .next t₁ ∧ exec (.encode a j t m v) s = .next t₂ ∧
      t₁.txf = some f ∧ t₂.txf = some g ∧ f = b0 :: b1 :: b2 :: b3 :: rest ∧
      (b0.toNat : Int) = a ∧ (b1.toNat : Int) = i ∧ (b2.toNat : Int) = t ∧ (b3.toNat : Int) = m ∧
      { t₁ with cmd := t₂.cmd, txf := t₂.txf, encOut := t₂.encOut, txStream := t₂.txStream
                calls := t₂.calls } = t₂ ∧
      (t₁.encPhase = .idle → encOutcomeCode <$> t₁.encOut = encOutcomeCode <$> t₂.encOut) ∧
      t₁.txStream.length = t₂.txStream.length ∧ t₁.calls.length = t₂.calls.length

/-- R70 to R72, R79 and R107: every named row is `ENCODE` of the numerals the rules list, in every state,
and the 21 listed numerals are `LEGAL_INSTR`. -/
def Obligations.NamedRowsAreEncodeOfTheirNumerals : Prop :=
  legalInstr = [1, 2, 3, 4, 5, 6, 7, 8, 9, 10, 11, 12, 13, 14, 15, 30, 31, 32, 128, 129, 131] ∧
  ∀ (s : State) (a t m v : Int),
    exec (.encodeRor a t m v) s = exec (.encode a 1 t m v) s ∧
    exec (.encodeRol a t m v) s = exec (.encode a 2 t m v) s ∧
    exec (.encodeMst a t m v) s = exec (.encode a 3 t m v) s ∧
    exec (.encodeMvp a t m v) s = exec (.encode a 4 t m v) s ∧
    exec (.encodeSap a t m v) s = exec (.encode a 5 t m v) s ∧
    exec (.encodeGap a t m v) s = exec (.encode a 6 t m v) s ∧
    exec (.encodeStap a t m v) s = exec (.encode a 7 t m v) s ∧
    exec (.encodeRsap a t m v) s = exec (.encode a 8 t m v) s ∧
    exec (.encodeSgp a t m v) s = exec (.encode a 9 t m v) s ∧
    exec (.encodeGgp a t m v) s = exec (.encode a 10 t m v) s ∧
    exec (.encodeStgp a t m v) s = exec (.encode a 11 t m v) s ∧
    exec (.encodeRsgp a t m v) s = exec (.encode a 12 t m v) s ∧
    exec (.encodeRfs a t m v) s = exec (.encode a 13 t m v) s ∧
    exec (.encodeSio a t m v) s = exec (.encode a 14 t m v) s ∧
    exec (.encodeGio a t m v) s = exec (.encode a 15 t m v) s ∧
    exec (.encodeSco a t m v) s = exec (.encode a 30 t m v) s ∧
    exec (.encodeGco a t m v) s = exec (.encode a 31 t m v) s ∧
    exec (.encodeCco a t m v) s = exec (.encode a 32 t m v) s ∧
    exec (.encodeApplStop a t m v) s = exec (.encode a 128 t m v) s ∧
    exec (.encodeApplRun a t m v) s = exec (.encode a 129 t m v) s ∧
    exec (.encodeApplReset a t m v) s = exec (.encode a 131 t m v) s ∧
    exec (.encodeMvpAbs a m v) s = exec (.encode a 4 0 m v) s ∧
    exec (.encodeMvpRel a m v) s = exec (.encode a 4 1 m v) s ∧
    exec (.encodeMvpCoord a m v) s = exec (.encode a 4 2 m v) s ∧
    exec (.encodeRfsStart a m v) s = exec (.encode a 13 0 m v) s ∧
    exec (.encodeRfsStop a m v) s = exec (.encode a 13 1 m v) s ∧
    exec (.encodeRfsStatus a m v) s = exec (.encode a 13 2 m v) s

/-- Completion of the named rows `encodeRor`, `encodeRol`, `encodeMst`, `encodeMvp`, `encodeSap`, `encodeGap`,
`encodeStap`, `encodeRsap`, `encodeSgp`, `encodeGgp`, `encodeStgp`, `encodeRsgp`, `encodeRfs`, `encodeSio`,
`encodeGio`, `encodeSco`, `encodeGco`, `encodeCco`, `encodeApplStop`, `encodeApplRun`, `encodeApplReset`: on
operands in range, in either mode (their numeral is listed, R70, R73), the frame with the row's instruction
byte is written and returned. -/
def Obligations.OpcodeRowsWriteTheirFrame : Prop :=
  ∀ row ∈ ([(Instr.encodeRor, 1), (Instr.encodeRol, 2), (Instr.encodeMst, 3), (Instr.encodeMvp, 4),
      (Instr.encodeSap, 5), (Instr.encodeGap, 6), (Instr.encodeStap, 7), (Instr.encodeRsap, 8),
      (Instr.encodeSgp, 9), (Instr.encodeGgp, 10), (Instr.encodeStgp, 11), (Instr.encodeRsgp, 12),
      (Instr.encodeRfs, 13), (Instr.encodeSio, 14), (Instr.encodeGio, 15), (Instr.encodeSco, 30),
      (Instr.encodeGco, 31), (Instr.encodeCco, 32), (Instr.encodeApplStop, 128),
      (Instr.encodeApplRun, 129), (Instr.encodeApplReset, 131)] :
      List ((Int → Int → Int → Int → Instr) × Int)),
  ∀ (s : State) (a t m v : Int) (rest : List WriteAnswer), Ready s →
    0 ≤ a → a ≤ 255 → 0 ≤ t → t ≤ 255 → 0 ≤ m → m ≤ 255 →
    -2147483648 ≤ v → v ≤ 2147483647 → s.writeAnswers = .ok :: rest →
    exec (row.1 a t m v) s = .next { s with
      cmd := some ⟨a, row.2, t, m, v⟩
      txf := some (requestFrame ⟨a, row.2, t, m, v⟩)
      encPhase := .idle
      encOut := some (.ok (requestFrame ⟨a, row.2, t, m, v⟩))
      txStream := s.txStream ++ requestFrame ⟨a, row.2, t, m, v⟩
      calls := s.calls ++ [.write (requestFrame ⟨a, row.2, t, m, v⟩)]
      writeAnswers := rest }

/-- Completion of the sub-option rows `encodeMvpAbs`, `encodeMvpRel`, `encodeMvpCoord`, `encodeRfsStart`,
`encodeRfsStop`, `encodeRfsStatus` (R71, R72), as in `OpcodeRowsWriteTheirFrame`. -/
def Obligations.SubOptionRowsWriteTheirFrame : Prop :=
  ∀ row ∈ ([(Instr.encodeMvpAbs, 4, 0), (Instr.encodeMvpRel, 4, 1), (Instr.encodeMvpCoord, 4, 2),
      (Instr.encodeRfsStart, 13, 0), (Instr.encodeRfsStop, 13, 1), (Instr.encodeRfsStatus, 13, 2)] :
      List ((Int → Int → Int → Instr) × Int × Int)),
  ∀ (s : State) (a m v : Int) (rest : List WriteAnswer), Ready s →
    0 ≤ a → a ≤ 255 → 0 ≤ m → m ≤ 255 →
    -2147483648 ≤ v → v ≤ 2147483647 → s.writeAnswers = .ok :: rest →
    exec (row.1 a m v) s = .next { s with
      cmd := some ⟨a, row.2.1, row.2.2, m, v⟩
      txf := some (requestFrame ⟨a, row.2.1, row.2.2, m, v⟩)
      encPhase := .idle
      encOut := some (.ok (requestFrame ⟨a, row.2.1, row.2.2, m, v⟩))
      txStream := s.txStream ++ requestFrame ⟨a, row.2.1, row.2.2, m, v⟩
      calls := s.calls ++ [.write (requestFrame ⟨a, row.2.1, row.2.2, m, v⟩)]
      writeAnswers := rest }

/-- The frame of every `ENCODE` row (R22, R36, R45): the decoder's registers, the configuration and the input
side are unchanged, `CMD` holds the operands, and the wire, the history and `TXF` change exactly as the
operands and the channel's next answer say. That `TX_STREAM` is unchanged while the write waits, bytes
appearing in it only at the answer, is the model's choice (log 9). -/
def Obligations.EncodeRowsLeaveTheDecoderUnchanged : Prop :=
  ∀ (i : Instr) (c : Command) (s t : State), commandOf i = some c → exec i s = .next t →
    t.config = s.config ∧ t.rxf = s.rxf ∧ t.rxlen = s.rxlen ∧ t.decPhase = s.decPhase ∧ t.res = s.res ∧
    t.decOut = s.decOut ∧ t.attached = s.attached ∧ t.rxTaken = s.rxTaken ∧
    t.readAnswers = s.readAnswers ∧ t.inputs = s.inputs ∧ t.cmd = some c ∧
    (LegalCommand s.config c →
      t.txf = some (requestFrame c) ∧ t.calls = s.calls ++ [.write (requestFrame c)] ∧
      t.writeAnswers = s.writeAnswers.tail ∧
      (s.writeAnswers = [] → t.encPhase = .writing ∧ t.encOut = s.encOut ∧ t.txStream = s.txStream) ∧
      (∀ rest, s.writeAnswers = .ok :: rest → t.encPhase = .idle ∧
        t.txStream = s.txStream ++ requestFrame c) ∧
      ∀ e n rest, s.writeAnswers = .err e n :: rest → t.encPhase = .idle ∧
        t.txStream = s.txStream ++ (requestFrame c).take n) ∧
    (¬LegalCommand s.config c →
      t.txf = none ∧ t.calls = s.calls ∧ t.writeAnswers = s.writeAnswers ∧ t.encPhase = .idle ∧
      t.txStream = s.txStream)

/-! ### DECODE -/

/-- R124: a delivered frame of 9 bytes with a valid checksum and status 100 makes `DECODE` succeed:
`RES` and `DEC_OUT` are written with `stored = false`, the bytes are consumed. -/
def Obligations.DecodeOfStatus100ReturnsResult : Prop :=
  ∀ (s : State) (b0 b1 b3 b4 b5 b6 b7 b8 : Byte) (rest : List ReadAnswer), Ready s →
    s.readAnswers = .bytes [b0, b1, 100, b3, b4, b5, b6, b7, b8] :: rest →
    b8 = checksum8 [b0, b1, 100, b3, b4, b5, b6, b7] →
    exec .decode s = .next { s with
      rxf := some [b0, b1, 100, b3, b4, b5, b6, b7, b8]
      rxlen := some 9
      decPhase := .validated
      res := some ⟨b0, b1, 100, b3, beUnpack32 b4 b5 b6 b7, false⟩
      decOut := some (.ok ⟨b0, b1, 100, b3, beUnpack32 b4 b5 b6 b7, false⟩)
      rxTaken := s.rxTaken ++ [b0, b1, 100, b3, b4, b5, b6, b7, b8]
      calls := s.calls ++ [.read 9]
      readAnswers := rest }

/-- R125: as for status 100, with `stored = true`. -/
def Obligations.DecodeOfStatus101ReturnsStoredResult : Prop :=
  ∀ (s : State) (b0 b1 b3 b4 b5 b6 b7 b8 : Byte) (rest : List ReadAnswer), Ready s →
    s.readAnswers = .bytes [b0, b1, 101, b3, b4, b5, b6, b7, b8] :: rest →
    b8 = checksum8 [b0, b1, 101, b3, b4, b5, b6, b7] →
    exec .decode s = .next { s with
      rxf := some [b0, b1, 101, b3, b4, b5, b6, b7, b8]
      rxlen := some 9
      decPhase := .validated
      res := some ⟨b0, b1, 101, b3, beUnpack32 b4 b5 b6 b7, true⟩
      decOut := some (.ok ⟨b0, b1, 101, b3, beUnpack32 b4 b5 b6 b7, true⟩)
      rxTaken := s.rxTaken ++ [b0, b1, 101, b3, b4, b5, b6, b7, b8]
      calls := s.calls ++ [.read 9]
      readAnswers := rest }

/-- R126 and R131: a valid checksum and a status of 1 to 6 make `DECODE` raise `ProtocolError` with the exact
message; status 1 too, not `ChecksumError`. That `RES` holds no value then is the model's inference from R34
(the spec's decision D15) and R167 (log 7). -/
def Obligations.DecodeOfMappedStatusRaisesProtocolError : Prop :=
  ∀ row ∈ ([(1, "Wrong checksum"), (2, "Invalid command"), (3, "Wrong type"), (4, "Invalid value"),
      (5, "Configuration EEPROM locked"), (6, "Command not available")] : List (Byte × String)),
  ∀ (s : State) (b0 b1 b3 b4 b5 b6 b7 b8 : Byte) (rest : List ReadAnswer), Ready s →
    s.readAnswers = .bytes [b0, b1, row.1, b3, b4, b5, b6, b7, b8] :: rest →
    b8 = checksum8 [b0, b1, row.1, b3, b4, b5, b6, b7] →
    exec .decode s = .next { s with
      rxf := some [b0, b1, row.1, b3, b4, b5, b6, b7, b8]
      rxlen := some 9
      decPhase := .rejected
      res := none
      decOut := some (.error (.protocolError row.1 row.2))
      rxTaken := s.rxTaken ++ [b0, b1, row.1, b3, b4, b5, b6, b7, b8]
      calls := s.calls ++ [.read 9]
      readAnswers := rest }

/-- R127 (D10): a valid checksum and any other status make `DECODE` raise `ProtocolError` with the raw code
and the configured message. That `RES` holds no value then is the model's inference from R34 (the spec's
decision D15) and R167 (log 7). -/
def Obligations.DecodeOfUnknownStatusKeepsTheCode : Prop :=
  ∀ (s : State) (b0 b1 b2 b3 b4 b5 b6 b7 b8 : Byte) (rest : List ReadAnswer), Ready s →
    b2.toNat ∉ [100, 101, 1, 2, 3, 4, 5, 6] →
    s.readAnswers = .bytes [b0, b1, b2, b3, b4, b5, b6, b7, b8] :: rest →
    b8 = checksum8 [b0, b1, b2, b3, b4, b5, b6, b7] →
    exec .decode s = .next { s with
      rxf := some [b0, b1, b2, b3, b4, b5, b6, b7, b8]
      rxlen := some 9
      decPhase := .rejected
      res := none
      decOut := some (.error (.protocolError b2 s.config.unknownStatusMessage))
      rxTaken := s.rxTaken ++ [b0, b1, b2, b3, b4, b5, b6, b7, b8]
      calls := s.calls ++ [.read 9]
      readAnswers := rest }

/-- R123 and R128 (the payload is the spec's choice D9): 9 bytes whose checksum does not match make `DECODE`
raise `ChecksumError(received, computed)`, whatever the status byte says. That `RES` holds no value then is the
model's inference from R34 (the spec's decision D15) and R167 (log 7). -/
def Obligations.DecodeChecksTheChecksumBeforeTheStatus : Prop :=
  ∀ (s : State) (b0 b1 b2 b3 b4 b5 b6 b7 b8 : Byte) (rest : List ReadAnswer), Ready s →
    s.readAnswers = .bytes [b0, b1, b2, b3, b4, b5, b6, b7, b8] :: rest →
    b8 ≠ checksum8 [b0, b1, b2, b3, b4, b5, b6, b7] →
    exec .decode s = .next { s with
      rxf := some [b0, b1, b2, b3, b4, b5, b6, b7, b8]
      rxlen := some 9
      decPhase := .rejected
      res := none
      decOut := some (.error (.checksumError b8 (checksum8 [b0, b1, b2, b3, b4, b5, b6, b7])))
      rxTaken := s.rxTaken ++ [b0, b1, b2, b3, b4, b5, b6, b7, b8]
      calls := s.calls ++ [.read 9]
      readAnswers := rest }

/-- R121 (D7, D8): a failed read, a short read and a long read raise their `IOError`; no byte is parsed and no
second read is made. That `RES`, and after a failed read `RXF` and `RXLEN`, hold no value then is the model's
inference from R34 (the spec's decision D15) and R167 (log 7); that a failed read consumes nothing is its
inference from R47 (log 16). -/
def Obligations.DecodeOfWrongLengthOrFailedReadRaisesIOError : Prop :=
  ∀ (s : State) (rest : List ReadAnswer), Ready s →
    (∀ e, s.readAnswers = .err e :: rest →
      exec .decode s = .next { s with
        rxf := none
        rxlen := none
        decPhase := .rejected
        res := none
        decOut := some (.error (.ioError (.readFailed e)))
        calls := s.calls ++ [.read 9]
        readAnswers := rest }) ∧
    (∀ b : Bytes, s.readAnswers = .bytes b :: rest → b.length < 9 →
      exec .decode s = .next { s with
        rxf := some b
        rxlen := some b.length
        decPhase := .rejected
        res := none
        decOut := some (.error (.ioError (.shortRead b.length)))
        rxTaken := s.rxTaken ++ b
        calls := s.calls ++ [.read 9]
        readAnswers := rest }) ∧
    ∀ b : Bytes, s.readAnswers = .bytes b :: rest → 9 < b.length →
      exec .decode s = .next { s with
        rxf := some b
        rxlen := some b.length
        decPhase := .rejected
        res := none
        decOut := some (.error (.ioError (.lengthMismatch b.length)))
        rxTaken := s.rxTaken ++ b
        calls := s.calls ++ [.read 9]
        readAnswers := rest }

/-- R132 and R47 (D15, D20): while the channel has not answered, `DECODE` stays in `AWAIT`. That the values
of an earlier `DECODE` are gone from its issue on is the model's inference from R34 (log 7). -/
def Obligations.DecodeWaitsInAwait : Prop :=
  ∀ s : State, Ready s → s.readAnswers = [] →
    exec .decode s = .next { s with
      rxf := none
      rxlen := none
      decPhase := .await
      res := none
      calls := s.calls ++ [.read 9] }

/-- Completion of the success rows `decodeStatus100` and `decodeStatus101` (R124, R125; the row as a delivered
frame is the model's choice, log 12): with R65's checksum the result carries every field of the frame. -/
def Obligations.SuccessRowsReturnTheirFields : Prop :=
  ∀ (s : State) (r m e : Byte) (v : Int), Ready s → -2147483648 ≤ v → v ≤ 2147483647 →
    (exec (.decodeStatus100 r m e v (checksum8 (framePayload r m 100 e v))) s = .next { s with
      rxf := some (replyFrame ⟨r, m, 100, e, v, checksum8 (framePayload r m 100 e v)⟩)
      rxlen := some 9
      decPhase := .validated
      res := some ⟨r, m, 100, e, v, false⟩
      decOut := some (.ok ⟨r, m, 100, e, v, false⟩)
      rxTaken := s.rxTaken ++ replyFrame ⟨r, m, 100, e, v, checksum8 (framePayload r m 100 e v)⟩
      calls := s.calls ++ [.read 9] }) ∧
    exec (.decodeStatus101 r m e v (checksum8 (framePayload r m 101 e v))) s = .next { s with
      rxf := some (replyFrame ⟨r, m, 101, e, v, checksum8 (framePayload r m 101 e v)⟩)
      rxlen := some 9
      decPhase := .validated
      res := some ⟨r, m, 101, e, v, true⟩
      decOut := some (.ok ⟨r, m, 101, e, v, true⟩)
      rxTaken := s.rxTaken ++ replyFrame ⟨r, m, 101, e, v, checksum8 (framePayload r m 101 e v)⟩
      calls := s.calls ++ [.read 9] }

/-- Completion of the failure rows `decodeStatus1` to `decodeStatus6` (R126; log 12): with R65's checksum their
effect is the `ProtocolError` with the exact message. That `RES` holds no value then is the model's inference
from R34 (the spec's decision D15) and R167 (log 7). -/
def Obligations.MappedFailureRowsRaiseTheirMessage : Prop :=
  ∀ row ∈ ([(Instr.decodeStatus1, 1, "Wrong checksum"), (Instr.decodeStatus2, 2, "Invalid command"),
      (Instr.decodeStatus3, 3, "Wrong type"), (Instr.decodeStatus4, 4, "Invalid value"),
      (Instr.decodeStatus5, 5, "Configuration EEPROM locked"),
      (Instr.decodeStatus6, 6, "Command not available")] :
      List ((Byte → Byte → Byte → Int → Byte → Instr) × Byte × String)),
  ∀ (s : State) (r m e : Byte) (v : Int), Ready s →
    exec (row.1 r m e v (checksum8 (framePayload r m row.2.1 e v))) s = .next { s with
      rxf := some (replyFrame ⟨r, m, row.2.1, e, v, checksum8 (framePayload r m row.2.1 e v)⟩)
      rxlen := some 9
      decPhase := .rejected
      res := none
      decOut := some (.error (.protocolError row.2.1 row.2.2))
      rxTaken := s.rxTaken ++
        replyFrame ⟨r, m, row.2.1, e, v, checksum8 (framePayload r m row.2.1 e v)⟩
      calls := s.calls ++ [.read 9] }

/-- Completion of the row `decodeStatusUnknown` (R127; log 12): with R65's checksum its effect is the
`ProtocolError` with the raw code and the configured message. That `RES` holds no value then is the model's
inference from R34 (the spec's decision D15) and R167 (log 7). -/
def Obligations.UnknownStatusRowKeepsTheCode : Prop :=
  ∀ (s : State) (r m st e : Byte) (v : Int), Ready s → st.toNat ∉ [100, 101, 1, 2, 3, 4, 5, 6] →
    exec (.decodeStatusUnknown r m st e v (checksum8 (framePayload r m st e v))) s = .next { s with
      rxf := some (replyFrame ⟨r, m, st, e, v, checksum8 (framePayload r m st e v)⟩)
      rxlen := some 9
      decPhase := .rejected
      res := none
      decOut := some (.error (.protocolError st s.config.unknownStatusMessage))
      rxTaken := s.rxTaken ++ replyFrame ⟨r, m, st, e, v, checksum8 (framePayload r m st e v)⟩
      calls := s.calls ++ [.read 9] }

/-- R123 for the nine status rows (log 12; the payload is the spec's choice D9): a frame whose checksum byte is
another raises `ChecksumError`. That `RES` holds no value then is the model's inference from R34 (the spec's
decision D15) and R167 (log 7). -/
def Obligations.StatusRowsWithBadChecksumRaiseChecksumError : Prop :=
  ∀ (i : Instr) (r : Reply) (s : State), replyOf i = some r → Ready s →
    r.checksum ≠ checksum8 ((replyFrame r).take 8) →
    ∃ t, exec i s = .next t ∧ t.decPhase = .rejected ∧ t.res = none ∧ t.rxf = some (replyFrame r) ∧
      t.decOut = some (.error (.checksumError r.checksum (checksum8 ((replyFrame r).take 8))))

/-- The frame of `DECODE` and its status rows (R36, R46): the encoder's registers, the configuration, the wire
and the input side are unchanged; exactly one `ChanRead(9)` is made; what the read returned is `RXF` and is
consumed, and a failed read consumes nothing (the model's inference, log 16); `RES` holds a value only after
`VALIDATED` (the model's inference, log 7); a status row takes no queued answer (the model's choice, log 12). -/
def Obligations.DecodeRowsLeaveTheEncoderUnchanged : Prop :=
  ∀ (i : Instr) (s t : State), commandOf i = none → exec i s = .next t →
    t.config = s.config ∧ t.cmd = s.cmd ∧ t.txf = s.txf ∧ t.encPhase = s.encPhase ∧ t.encOut = s.encOut ∧
    t.attached = s.attached ∧ t.txStream = s.txStream ∧ t.writeAnswers = s.writeAnswers ∧
    t.inputs = s.inputs ∧ t.calls = s.calls ++ [.read 9] ∧
    t.rxlen = t.rxf.map List.length ∧ t.rxTaken = s.rxTaken ++ t.rxf.getD [] ∧
    (t.decPhase ≠ .validated → t.res = none) ∧
    (i = .decode → t.readAnswers = s.readAnswers.tail) ∧
    (i ≠ .decode → t.readAnswers = s.readAnswers)

/-! ### Properties of the checksum and the round trip -/

/-- R134 (derived by the spec): one flipped bit in a well-checksummed frame, the checksum byte's bits
included, makes `DECODE` raise `ChecksumError`. -/
def Obligations.SingleBitFlipIsDetected : Prop :=
  ∀ (f : Bytes) (k j : Nat) (s : State) (rest : List ReadAnswer), SoundFrame f → k < 9 → j < 8 → Ready s →
    s.readAnswers = .bytes (f.modify k (fun b => b ^^^ (1#8 <<< j))) :: rest →
    ∃ t received computed, exec .decode s = .next t ∧ received ≠ computed ∧
      t.decPhase = .rejected ∧ t.decOut = some (.error (.checksumError received computed))

/-- R134 (derived by the spec): a reordering of bytes 0 to 7 is not detected; a frame that passes the checksum
still passes it. -/
def Obligations.ReorderingOfPayloadIsNotDetected : Prop :=
  ∀ (p q : Bytes) (c : Byte), p.length = 8 → p.Perm q →
    (wellChecksummed (p ++ [c]) = true ↔ wellChecksummed (q ++ [c]) = true)

/-- R135 (derived by the spec): a delivered `REQ9(r, m, s, e, v)` with status 100 or 101 decodes to exactly
those fields, `−2147483648` and `2147483647` included. -/
def Obligations.DeliveredRequestFrameDecodesToItsFields : Prop :=
  ∀ (s : State) (r m st e v : Int) (rest : List ReadAnswer), Ready s →
    0 ≤ r → r ≤ 255 → 0 ≤ m → m ≤ 255 → st = 100 ∨ st = 101 → 0 ≤ e → e ≤ 255 →
    -2147483648 ≤ v → v ≤ 2147483647 →
    s.readAnswers = .bytes (requestFrame ⟨r, m, st, e, v⟩) :: rest →
    ∃ t res, exec .decode s = .next t ∧ t.decPhase = .validated ∧ t.res = some res ∧
      t.decOut = some (.ok res) ∧ (res.replyAddress.toNat : Int) = r ∧
      (res.moduleAddress.toNat : Int) = m ∧ (res.status.toNat : Int) = st ∧
      (res.echoedInstruction.toNat : Int) = e ∧ res.value = v ∧ (res.stored = true ↔ st = 101)

/-! ### Readiness, statelessness, one operation in flight -/

/-- R200 and R172: every row, on any operands, answers a next state where none is in flight and a channel is
attached. -/
def Obligations.EveryRowCompletesWhenReady : Prop :=
  ∀ (i : Instr) (s : State), Ready s → ∃ t, exec i s = .next t

/-- R203 (the spec's choice D26): an operation issued while another is in flight is refused by name. -/
def Obligations.OverlapIsRefusedByName : Prop :=
  ∀ (i : Instr) (s : State), s.encPhase = .writing ∨ s.decPhase = .await →
    exec i s = .refused .overlap

/-- R202: an operation issued with no channel attached is refused. -/
def Obligations.NoChannelIsRefusedByName : Prop :=
  ∀ (i : Instr) (s : State), s.encPhase ≠ .writing → s.decPhase ≠ .await → s.attached = false →
    exec i s = .refused .noChannel

/-- R20 (and R106, R170): the outcome of an operation depends only on its operands, the configuration and the
channel's answers, on nothing an earlier operation left. -/
def Obligations.OutcomeDependsOnlyOnOperandsConfigAndAnswers : Prop :=
  ∀ (i : Instr) (s₁ s₂ : State), Ready s₁ → Ready s₂ → s₁.config = s₂.config →
    s₁.writeAnswers = s₂.writeAnswers → s₁.readAnswers = s₂.readAnswers →
    ∃ t₁ t₂, exec i s₁ = .next t₁ ∧ exec i s₂ = .next t₂ ∧
      (commandOf i ≠ none → t₁.encPhase = t₂.encPhase ∧ t₁.cmd = t₂.cmd ∧ t₁.txf = t₂.txf ∧
        (t₁.encPhase = .idle → t₁.encOut = t₂.encOut)) ∧
      (commandOf i = none → t₁.decPhase = t₂.decPhase ∧ t₁.rxf = t₂.rxf ∧ t₁.rxlen = t₂.rxlen ∧
        t₁.res = t₂.res ∧ (t₁.decPhase ≠ .await → t₁.decOut = t₂.decOut))

/-- R24, R47 and R104: an answer that comes while the write waits ends the operation exactly as the same
answer at hand would have. -/
def Obligations.LateWriteAnswerEndsTheOperationAlike : Prop :=
  ∀ (i : Instr) (c : Command) (s : State) (a : WriteAnswer) (rest : List Input),
    commandOf i = some c → LegalCommand s.config c → Ready s → s.writeAnswers = [] →
    ∃ t, exec i s = .next t ∧ t.encPhase = .writing ∧
      step { t with inputs := .writeAnswer a :: rest } =
        exec i { s with writeAnswers := [a], inputs := rest }

/-- R121 and R132: an answer that comes while the read waits ends the operation exactly as the same answer at
hand would have. -/
def Obligations.LateReadAnswerEndsTheOperationAlike : Prop :=
  ∀ (s : State) (a : ReadAnswer) (rest : List Input), Ready s → s.readAnswers = [] →
    ∃ t, exec .decode s = .next t ∧ t.decPhase = .await ∧
      step { t with inputs := .readAnswer a :: rest } =
        exec .decode { s with readAnswers := [a], inputs := rest }

/-! ### The step -/

/-- A presented operation that decodes runs as that operation, the input that presented it taken (inputs: the
model's choice, log 3 and log 4); an issue that does not decode is refused by name (the model's choice, log 15);
a table word placed by `withFetchWord` runs as what it decodes to (the model's numbering, log 6). -/
def Obligations.StepRunsTheDecodedOperation : Prop :=
  (∀ (s : State) (p : Issue) (i : Instr) (rest : List Input),
    s.inputs = .issue p :: rest → decode p = .ok i → step s = exec i { s with inputs := rest }) ∧
  (∀ (s : State) (p : Issue) (e : DecodeError) (rest : List Input),
    s.inputs = .issue p :: rest → decode p = .error e →
      step s = .refused (match e with | .operandCount => .operandCount | .frameLength => .frameLength)) ∧
  ∀ (s : State) (nbits w : Nat) (i : Instr), decodeTableWord nbits w = some i →
    step (s.withFetchWord nbits w) = exec i s

/-- R47 (D20): a channel that never answers is a hang the model admits: with no input to come, a step changes
nothing. That this holds in every phase, the idle ones included, is the model's choice (log 18). -/
def Obligations.SilentChannelHangsWithoutFault : Prop :=
  ∀ (s : State) (n : Nat), s.inputs = [] → core.run n s = .next s

/-- R28: no step writes the configuration. -/
def Obligations.NoStepWritesTheConfiguration : Prop :=
  ∀ s t : State, step s = .next t → t.config = s.config

/-- R45 and R46: an `ENCODE` row whose operands pass makes exactly one channel access, one write of the 9 bytes
of its frame, whatever the channel answers; one that raises `ContractViolation` makes none; every `DECODE` row
makes exactly one `ChanRead(9)`. A step makes an access only as the operation issued in it: an answer, which ends
an operation that waits, makes none, so no access is repeated. The wire grows by at most 9 bytes a step. -/
def Obligations.OneAccessPerOperationAndNoRetry : Prop :=
  (∀ (i : Instr) (s : State), Ready s → ∃ t, exec i s = .next t ∧
    (∀ c, commandOf i = some c → LegalCommand s.config c →
      ∃ f, t.txf = some f ∧ f.length = 9 ∧ t.calls = s.calls ++ [.write f]) ∧
    (∀ c, commandOf i = some c → ¬LegalCommand s.config c → t.calls = s.calls) ∧
    (commandOf i = none → t.calls = s.calls ++ [.read 9])) ∧
  ∀ s t : State, s.Inv → step s = .next t →
    ((∀ p rest, s.inputs ≠ .issue p :: rest) → t.calls = s.calls) ∧
    ∃ b, t.txStream = s.txStream ++ b ∧ b.length ≤ 9

/-- R200 (the spec's decision D15): a reset with neither unit waiting. -/
def Obligations.ResetClearsTheCodecOnly : Prop :=
  ∀ (s : State) (d : ResetDraw) (rest : List Input), s.inputs = .reset d :: rest →
    s.encPhase ≠ .writing → s.decPhase ≠ .await →
    step s = .next { s with
      cmd := none
      txf := none
      rxf := none
      rxlen := none
      encPhase := .idle
      decPhase := .idle
      res := none
      encOut := none
      decOut := none
      inputs := rest }

/-- R201 (D18): a reset during an operation abandons it with no outcome; the drawn part of `TXF` is on the
wire, or the drawn bytes are consumed. -/
def Obligations.ResetAbandonsAnOperationInFlight : Prop :=
  ∀ (s : State) (d : ResetDraw) (rest : List Input), s.inputs = .reset d :: rest →
    ∃ t, step s = .next t ∧ t.encPhase = .idle ∧ t.decPhase = .idle ∧ t.encOut = none ∧ t.decOut = none ∧
      t.cmd = none ∧ t.txf = none ∧ t.rxf = none ∧ t.rxlen = none ∧ t.res = none ∧
      t.config = s.config ∧ t.attached = s.attached ∧ t.calls = s.calls ∧
      t.writeAnswers = s.writeAnswers ∧ t.readAnswers = s.readAnswers ∧ t.inputs = rest ∧
      (∀ f, s.encPhase = .writing → s.txf = some f → t.txStream = s.txStream ++ f.take d.sent) ∧
      (s.encPhase ≠ .writing → t.txStream = s.txStream) ∧
      (s.decPhase = .await → t.rxTaken = s.rxTaken ++ d.lost) ∧
      (s.decPhase ≠ .await → t.rxTaken = s.rxTaken)

/-- R200 (D15): a reset between operations is not observable in the next operation's outcome, nor in the
registers and streams of the unit that runs it. -/
def Obligations.ResetBetweenOperationsIsNotObservable : Prop :=
  ∀ (i : Instr) (s : State) (d : ResetDraw) (rest : List Input), Ready s → s.inputs = .reset d :: rest →
    ∃ r t₁ t₂, step s = .next r ∧ exec i { s with inputs := rest } = .next t₁ ∧ exec i r = .next t₂ ∧
      (commandOf i ≠ none → t₁.encPhase = t₂.encPhase ∧ t₁.cmd = t₂.cmd ∧ t₁.txf = t₂.txf ∧
        t₁.txStream = t₂.txStream ∧ (t₁.encPhase = .idle → t₁.encOut = t₂.encOut)) ∧
      (commandOf i = none → t₁.decPhase = t₂.decPhase ∧ t₁.rxf = t₂.rxf ∧ t₁.rxlen = t₂.rxlen ∧
        t₁.res = t₂.res ∧ t₁.rxTaken = t₂.rxTaken ∧ (t₁.decPhase ≠ .await → t₁.decOut = t₂.decOut))

/-- R202 and R27: attaching a channel changes nothing else, and then every row runs. -/
def Obligations.AttachingAChannelMakesTheCodecReady : Prop :=
  ∀ (s : State) (rest : List Input), s.inputs = .attachChannel :: rest →
    step s = .next { s with attached := true, inputs := rest } ∧
    (s.encPhase ≠ .writing → s.decPhase ≠ .await →
      ∀ i, ∃ t, exec i { s with attached := true, inputs := rest } = .next t)

/-! ### Registers, codes, invariant -/

/-- R35 and R28 (the spec's decision D15 and defaults): what reset leaves; the channel's and the model's own
fields are not part of the statement (log 2, log 3). -/
def Obligations.ResetStateHoldsNoValues : Prop :=
  State.reset.cmd = none ∧ State.reset.txf = none ∧ State.reset.rxf = none ∧ State.reset.rxlen = none ∧
  State.reset.encPhase = .idle ∧ State.reset.decPhase = .idle ∧ State.reset.res = none ∧
  State.reset.encOut = none ∧ State.reset.decOut = none ∧
  State.reset.config.strictInstruction = true ∧
  State.reset.config.unknownStatusMessage = "unknown error"

/-- R34 and R35 (D15): reading a register that holds no value faults, and reading one that holds a value gives
it. R40: a frame has the positions 0 to 8; that reading another faults, and that a position to which a short read
brought no byte holds no value, is the model's inference (log 11). -/
def Obligations.ReadingNoValueFaults : Prop :=
  ∀ s : State,
    (s.cmd = none → readCmd s = .error (.noValue .cmd)) ∧ (∀ c, s.cmd = some c → readCmd s = .ok c) ∧
    (s.rxlen = none → readRxlen s = .error (.noValue .rxlen)) ∧
    (∀ n, s.rxlen = some n → readRxlen s = .ok n) ∧
    (s.res = none → readRes s = .error (.noValue .res)) ∧ (∀ r, s.res = some r → readRes s = .ok r) ∧
    (s.encOut = none → readEncOut s = .error (.noValue .encOut)) ∧
    (∀ o, s.encOut = some o → readEncOut s = .ok o) ∧
    (s.decOut = none → readDecOut s = .error (.noValue .decOut)) ∧
    (∀ o, s.decOut = some o → readDecOut s = .ok o) ∧
    (∀ k, s.txf = none → readTxf s k = .error (.noValue .txf)) ∧
    (∀ k, s.rxf = none → readRxf s k = .error (.noValue .rxf)) ∧
    (∀ f k, s.txf = some f → f.length = 9 →
      (k < 9 → ∃ b, f[k]? = some b ∧ readTxf s k = .ok b) ∧
      (9 ≤ k → readTxf s k = .error (.noPosition k))) ∧
    ∀ f k, s.rxf = some f →
      (k < 9 → k < f.length → ∃ b, f[k]? = some b ∧ readRxf s k = .ok b) ∧
      (k < 9 → f.length ≤ k → readRxf s k = .error (.noValue .rxf)) ∧
      (9 ≤ k → readRxf s k = .error (.noPosition k))

/-- R160 to R162 (the spec's numbers D14, D4, D8): the codes of the outcomes and of their payloads. -/
def Obligations.OutcomeCodesAreAsListed : Prop :=
  (∀ f, encOutcomeCode (.ok f) = 0) ∧ (∀ r, decOutcomeCode (.ok r) = 0) ∧
  (∀ f v r, errorCode (.contractViolation f v r) = 1) ∧ (∀ k, errorCode (.ioError k) = 2) ∧
  (∀ r c, errorCode (.checksumError r c) = 3) ∧ (∀ c m, errorCode (.protocolError c m) = 4) ∧
  (∀ e, encOutcomeCode (.error e) = errorCode e ∧ decOutcomeCode (.error e) = errorCode e) ∧
  [fieldCode .address, fieldCode .instruction, fieldCode .type, fieldCode .motor, fieldCode .value] =
    [0, 1, 2, 3, 4] ∧
  [reasonCode .outOfRange, reasonCode .notEnumerated] = [0, 1] ∧
  ∀ e n, [ioErrorCode (.writeFailed e), ioErrorCode (.readFailed e), ioErrorCode (.shortRead n),
    ioErrorCode (.lengthMismatch n)] = [0, 1, 2, 3]

/-- The invariant of Safety.lean holds at reset. -/
def Obligations.InvariantHoldsAtReset : Prop :=
  State.reset.Inv

/-- Every step keeps the invariant of Safety.lean, from every state that meets it: one operation in flight,
`TXF` a sound frame of the checked operands, `RXLEN` the length of `RXF`, `RES`, `DEC_OUT` and the phases in
agreement, outcomes only of the kinds R100 and R120 give each unit. -/
def Obligations.EveryStepKeepsTheInvariant : Prop :=
  ∀ s t : State, s.Inv → step s = .next t → t.Inv

/-- From a state that meets the invariant no step faults: no register is read that holds no value (R34). -/
def Obligations.NoStepFaultsUnderTheInvariant : Prop :=
  ∀ s : State, s.Inv → NoFault (step s)
end

