-- ==== Sys2Proof/Laws/Frame.lean ====
section
/-! SUPPORT. Small lemmas of the frame formats (Machine/Frame.lean). -/

namespace Sys2Proof.Machine

@[simp] theorem bePack32_length (v : Int) : (bePack32 v).length = 4 := rfl

@[simp] theorem framePayload_length (b0 b1 b2 b3 : Byte) (v : Int) :
    (framePayload b0 b1 b2 b3 v).length = 8 := rfl

@[simp] theorem requestFrame_length (c : Command) : (requestFrame c).length = 9 := rfl

@[simp] theorem replyFrame_length (r : Reply) : (replyFrame r).length = 9 := rfl

@[simp] theorem frameOfWord_length (w : Nat) : (frameOfWord w).length = 9 := rfl

/-- `sext_32` as a case split, so that the literal of its test is not unfolded again (R13). -/
theorem sext32_cases (u : Nat) :
    (u < 2147483648 ∧ sext32 u = u) ∨ (2147483648 ≤ u ∧ sext32 u = (u : Int) - 4294967296) := by
  unfold sext32
  split <;> rename_i h
  · exact .inr ⟨h, rfl⟩
  · exact .inl ⟨Nat.lt_of_not_le h, rfl⟩

/-- The unsigned reading in the form R67 writes it, and its bound. -/
theorem beNat32_eq_sum (b4 b5 b6 b7 : Byte) :
    beNat32 b4 b5 b6 b7 = b4.toNat * 16777216 + b5.toNat * 65536 + b6.toNat * 256 + b7.toNat ∧
      beNat32 b4 b5 b6 b7 < 4294967296 := by
  have h4 := b4.isLt
  have h5 := b5.isLt
  have h6 := b6.isLt
  have h7 := b7.isLt
  unfold beNat32
  omega

/-- The four packed bytes as the digits of the value modulo 2^32 (R66). -/
theorem bePack32_digits (v : Int) : ∃ b4 b5 b6 b7 : Byte, bePack32 v = [b4, b5, b6, b7] ∧
    (b4.toNat : Int) = v % 4294967296 / 16777216 ∧
    (b5.toNat : Int) = v % 4294967296 / 65536 % 256 ∧
    (b6.toNat : Int) = v % 4294967296 / 256 % 256 ∧ (b7.toNat : Int) = v % 4294967296 % 256 := by
  refine ⟨_, _, _, _, rfl, ?_, ?_, ?_, ?_⟩ <;> simp only [BitVec.toNat_ofNat] <;> omega

/-- The checksum as a number (R65). -/
theorem checksum8_toNat (p : Bytes) : (checksum8 p).toNat = byteSum p % 256 := by
  simp [checksum8]

@[simp] theorem byteSum_nil : byteSum [] = 0 := rfl

@[simp] theorem byteSum_cons (b : Byte) (p : Bytes) : byteSum (b :: p) = b.toNat + byteSum p := by
  simp [byteSum]

/-- The first eight bytes of a nine-byte frame. -/
theorem take_eight (b0 b1 b2 b3 b4 b5 b6 b7 b8 : Byte) :
    [b0, b1, b2, b3, b4, b5, b6, b7, b8].take 8 = [b0, b1, b2, b3, b4, b5, b6, b7] := rfl

/-- A byte sequence of length 9, byte by byte. -/
theorem eq_nine_of_length {f : Bytes} (h : f.length = 9) :
    ∃ b0 b1 b2 b3 b4 b5 b6 b7 b8, f = [b0, b1, b2, b3, b4, b5, b6, b7, b8] := by
  match f, h with
  | [b0, b1, b2, b3, b4, b5, b6, b7, b8], _ => exact ⟨b0, b1, b2, b3, b4, b5, b6, b7, b8, rfl⟩

/-- A sequence parses exactly when it has 9 bytes (R121, R122). -/
theorem parseReply_eq_none_iff (b : Bytes) : parseReply b = none ↔ b.length ≠ 9 := by
  constructor
  · intro h hl
    obtain ⟨b0, b1, b2, b3, b4, b5, b6, b7, b8, rfl⟩ := eq_nine_of_length hl
    simp [parseReply] at h
  · intro h
    unfold parseReply
    split
    · simp at h
    · rfl

/-- In range of `u8`, as `LegalCommand` writes it. -/
theorem inU8_iff (x : Int) : inU8 x = true ↔ 0 ≤ x ∧ x ≤ 255 := by simp [inU8]

/-- In range of `i32`, as `LegalCommand` writes it. -/
theorem inI32_iff (x : Int) : inI32 x = true ↔ -2147483648 ≤ x ∧ x ≤ 2147483647 := by simp [inI32]

/-- The unsigned value of an in-range byte field is the operand (R68, R107). -/
theorem u8_toNat {x : Int} (h : 0 ≤ x ∧ x ≤ 255) : ((u8 x).toNat : Int) = x := by
  simp only [u8, BitVec.toNat_ofInt]
  omega

end Sys2Proof.Machine
end

