-- ==== Sys2Proof/Laws/State.lean ====
section
/-! SUPPORT. One lemma for each field of State and each named update of Machine/Ops.lean. -/

namespace Sys2Proof.Machine

variable (s : State)

/-! ### raiseEncoder -/

@[simp] theorem raiseEncoder_config (e : OpError) : (raiseEncoder e s).config = s.config := rfl
@[simp] theorem raiseEncoder_cmd (e : OpError) : (raiseEncoder e s).cmd = s.cmd := rfl
@[simp] theorem raiseEncoder_txf (e : OpError) : (raiseEncoder e s).txf = s.txf := rfl
@[simp] theorem raiseEncoder_rxf (e : OpError) : (raiseEncoder e s).rxf = s.rxf := rfl
@[simp] theorem raiseEncoder_rxlen (e : OpError) : (raiseEncoder e s).rxlen = s.rxlen := rfl
@[simp] theorem raiseEncoder_encPhase (e : OpError) : (raiseEncoder e s).encPhase = .idle := rfl
@[simp] theorem raiseEncoder_decPhase (e : OpError) : (raiseEncoder e s).decPhase = s.decPhase := rfl
@[simp] theorem raiseEncoder_res (e : OpError) : (raiseEncoder e s).res = s.res := rfl
@[simp] theorem raiseEncoder_encOut (e : OpError) : (raiseEncoder e s).encOut = some (.error e) := rfl
@[simp] theorem raiseEncoder_decOut (e : OpError) : (raiseEncoder e s).decOut = s.decOut := rfl
@[simp] theorem raiseEncoder_attached (e : OpError) : (raiseEncoder e s).attached = s.attached := rfl
@[simp] theorem raiseEncoder_txStream (e : OpError) : (raiseEncoder e s).txStream = s.txStream := rfl
@[simp] theorem raiseEncoder_rxTaken (e : OpError) : (raiseEncoder e s).rxTaken = s.rxTaken := rfl
@[simp] theorem raiseEncoder_calls (e : OpError) : (raiseEncoder e s).calls = s.calls := rfl
@[simp] theorem raiseEncoder_writeAnswers (e : OpError) : (raiseEncoder e s).writeAnswers = s.writeAnswers := rfl
@[simp] theorem raiseEncoder_readAnswers (e : OpError) : (raiseEncoder e s).readAnswers = s.readAnswers := rfl
@[simp] theorem raiseEncoder_inputs (e : OpError) : (raiseEncoder e s).inputs = s.inputs := rfl

/-! ### raiseDecoder -/

@[simp] theorem raiseDecoder_config (e : OpError) : (raiseDecoder e s).config = s.config := rfl
@[simp] theorem raiseDecoder_cmd (e : OpError) : (raiseDecoder e s).cmd = s.cmd := rfl
@[simp] theorem raiseDecoder_txf (e : OpError) : (raiseDecoder e s).txf = s.txf := rfl
@[simp] theorem raiseDecoder_rxf (e : OpError) : (raiseDecoder e s).rxf = s.rxf := rfl
@[simp] theorem raiseDecoder_rxlen (e : OpError) : (raiseDecoder e s).rxlen = s.rxlen := rfl
@[simp] theorem raiseDecoder_encPhase (e : OpError) : (raiseDecoder e s).encPhase = s.encPhase := rfl
@[simp] theorem raiseDecoder_decPhase (e : OpError) : (raiseDecoder e s).decPhase = .rejected := rfl
@[simp] theorem raiseDecoder_res (e : OpError) : (raiseDecoder e s).res = s.res := rfl
@[simp] theorem raiseDecoder_encOut (e : OpError) : (raiseDecoder e s).encOut = s.encOut := rfl
@[simp] theorem raiseDecoder_decOut (e : OpError) : (raiseDecoder e s).decOut = some (.error e) := rfl
@[simp] theorem raiseDecoder_attached (e : OpError) : (raiseDecoder e s).attached = s.attached := rfl
@[simp] theorem raiseDecoder_txStream (e : OpError) : (raiseDecoder e s).txStream = s.txStream := rfl
@[simp] theorem raiseDecoder_rxTaken (e : OpError) : (raiseDecoder e s).rxTaken = s.rxTaken := rfl
@[simp] theorem raiseDecoder_calls (e : OpError) : (raiseDecoder e s).calls = s.calls := rfl
@[simp] theorem raiseDecoder_writeAnswers (e : OpError) : (raiseDecoder e s).writeAnswers = s.writeAnswers := rfl
@[simp] theorem raiseDecoder_readAnswers (e : OpError) : (raiseDecoder e s).readAnswers = s.readAnswers := rfl
@[simp] theorem raiseDecoder_inputs (e : OpError) : (raiseDecoder e s).inputs = s.inputs := rfl

/-! ### returnEncoder -/

@[simp] theorem returnEncoder_config (f : Bytes) : (returnEncoder f s).config = s.config := rfl
@[simp] theorem returnEncoder_cmd (f : Bytes) : (returnEncoder f s).cmd = s.cmd := rfl
@[simp] theorem returnEncoder_txf (f : Bytes) : (returnEncoder f s).txf = s.txf := rfl
@[simp] theorem returnEncoder_rxf (f : Bytes) : (returnEncoder f s).rxf = s.rxf := rfl
@[simp] theorem returnEncoder_rxlen (f : Bytes) : (returnEncoder f s).rxlen = s.rxlen := rfl
@[simp] theorem returnEncoder_encPhase (f : Bytes) : (returnEncoder f s).encPhase = .idle := rfl
@[simp] theorem returnEncoder_decPhase (f : Bytes) : (returnEncoder f s).decPhase = s.decPhase := rfl
@[simp] theorem returnEncoder_res (f : Bytes) : (returnEncoder f s).res = s.res := rfl
@[simp] theorem returnEncoder_encOut (f : Bytes) : (returnEncoder f s).encOut = some (.ok f) := rfl
@[simp] theorem returnEncoder_decOut (f : Bytes) : (returnEncoder f s).decOut = s.decOut := rfl
@[simp] theorem returnEncoder_attached (f : Bytes) : (returnEncoder f s).attached = s.attached := rfl
@[simp] theorem returnEncoder_txStream (f : Bytes) : (returnEncoder f s).txStream = s.txStream := rfl
@[simp] theorem returnEncoder_rxTaken (f : Bytes) : (returnEncoder f s).rxTaken = s.rxTaken := rfl
@[simp] theorem returnEncoder_calls (f : Bytes) : (returnEncoder f s).calls = s.calls := rfl
@[simp] theorem returnEncoder_writeAnswers (f : Bytes) : (returnEncoder f s).writeAnswers = s.writeAnswers := rfl
@[simp] theorem returnEncoder_readAnswers (f : Bytes) : (returnEncoder f s).readAnswers = s.readAnswers := rfl
@[simp] theorem returnEncoder_inputs (f : Bytes) : (returnEncoder f s).inputs = s.inputs := rfl

/-! ### returnDecoder -/

@[simp] theorem returnDecoder_config (r : Result) : (returnDecoder r s).config = s.config := rfl
@[simp] theorem returnDecoder_cmd (r : Result) : (returnDecoder r s).cmd = s.cmd := rfl
@[simp] theorem returnDecoder_txf (r : Result) : (returnDecoder r s).txf = s.txf := rfl
@[simp] theorem returnDecoder_rxf (r : Result) : (returnDecoder r s).rxf = s.rxf := rfl
@[simp] theorem returnDecoder_rxlen (r : Result) : (returnDecoder r s).rxlen = s.rxlen := rfl
@[simp] theorem returnDecoder_encPhase (r : Result) : (returnDecoder r s).encPhase = s.encPhase := rfl
@[simp] theorem returnDecoder_decPhase (r : Result) : (returnDecoder r s).decPhase = .validated := rfl
@[simp] theorem returnDecoder_res (r : Result) : (returnDecoder r s).res = some r := rfl
@[simp] theorem returnDecoder_encOut (r : Result) : (returnDecoder r s).encOut = s.encOut := rfl
@[simp] theorem returnDecoder_decOut (r : Result) : (returnDecoder r s).decOut = some (.ok r) := rfl
@[simp] theorem returnDecoder_attached (r : Result) : (returnDecoder r s).attached = s.attached := rfl
@[simp] theorem returnDecoder_txStream (r : Result) : (returnDecoder r s).txStream = s.txStream := rfl
@[simp] theorem returnDecoder_rxTaken (r : Result) : (returnDecoder r s).rxTaken = s.rxTaken := rfl
@[simp] theorem returnDecoder_calls (r : Result) : (returnDecoder r s).calls = s.calls := rfl
@[simp] theorem returnDecoder_writeAnswers (r : Result) : (returnDecoder r s).writeAnswers = s.writeAnswers := rfl
@[simp] theorem returnDecoder_readAnswers (r : Result) : (returnDecoder r s).readAnswers = s.readAnswers := rfl
@[simp] theorem returnDecoder_inputs (r : Result) : (returnDecoder r s).inputs = s.inputs := rfl

/-! ### issueCommand -/

@[simp] theorem issueCommand_config (c : Command) : (issueCommand c s).config = s.config := rfl
@[simp] theorem issueCommand_cmd (c : Command) : (issueCommand c s).cmd = some c := rfl
@[simp] theorem issueCommand_txf (c : Command) : (issueCommand c s).txf = none := rfl
@[simp] theorem issueCommand_rxf (c : Command) : (issueCommand c s).rxf = s.rxf := rfl
@[simp] theorem issueCommand_rxlen (c : Command) : (issueCommand c s).rxlen = s.rxlen := rfl
@[simp] theorem issueCommand_encPhase (c : Command) : (issueCommand c s).encPhase = s.encPhase := rfl
@[simp] theorem issueCommand_decPhase (c : Command) : (issueCommand c s).decPhase = s.decPhase := rfl
@[simp] theorem issueCommand_res (c : Command) : (issueCommand c s).res = s.res := rfl
@[simp] theorem issueCommand_encOut (c : Command) : (issueCommand c s).encOut = s.encOut := rfl
@[simp] theorem issueCommand_decOut (c : Command) : (issueCommand c s).decOut = s.decOut := rfl
@[simp] theorem issueCommand_attached (c : Command) : (issueCommand c s).attached = s.attached := rfl
@[simp] theorem issueCommand_txStream (c : Command) : (issueCommand c s).txStream = s.txStream := rfl
@[simp] theorem issueCommand_rxTaken (c : Command) : (issueCommand c s).rxTaken = s.rxTaken := rfl
@[simp] theorem issueCommand_calls (c : Command) : (issueCommand c s).calls = s.calls := rfl
@[simp] theorem issueCommand_writeAnswers (c : Command) : (issueCommand c s).writeAnswers = s.writeAnswers := rfl
@[simp] theorem issueCommand_readAnswers (c : Command) : (issueCommand c s).readAnswers = s.readAnswers := rfl
@[simp] theorem issueCommand_inputs (c : Command) : (issueCommand c s).inputs = s.inputs := rfl

/-! ### startWrite -/

@[simp] theorem startWrite_config (f : Bytes) : (startWrite f s).config = s.config := rfl
@[simp] theorem startWrite_cmd (f : Bytes) : (startWrite f s).cmd = s.cmd := rfl
@[simp] theorem startWrite_txf (f : Bytes) : (startWrite f s).txf = some f := rfl
@[simp] theorem startWrite_rxf (f : Bytes) : (startWrite f s).rxf = s.rxf := rfl
@[simp] theorem startWrite_rxlen (f : Bytes) : (startWrite f s).rxlen = s.rxlen := rfl
@[simp] theorem startWrite_encPhase (f : Bytes) : (startWrite f s).encPhase = .writing := rfl
@[simp] theorem startWrite_decPhase (f : Bytes) : (startWrite f s).decPhase = s.decPhase := rfl
@[simp] theorem startWrite_res (f : Bytes) : (startWrite f s).res = s.res := rfl
@[simp] theorem startWrite_encOut (f : Bytes) : (startWrite f s).encOut = s.encOut := rfl
@[simp] theorem startWrite_decOut (f : Bytes) : (startWrite f s).decOut = s.decOut := rfl
@[simp] theorem startWrite_attached (f : Bytes) : (startWrite f s).attached = s.attached := rfl
@[simp] theorem startWrite_txStream (f : Bytes) : (startWrite f s).txStream = s.txStream := rfl
@[simp] theorem startWrite_rxTaken (f : Bytes) : (startWrite f s).rxTaken = s.rxTaken := rfl
@[simp] theorem startWrite_calls (f : Bytes) : (startWrite f s).calls = s.calls ++ [.write f] := rfl
@[simp] theorem startWrite_writeAnswers (f : Bytes) : (startWrite f s).writeAnswers = s.writeAnswers := rfl
@[simp] theorem startWrite_readAnswers (f : Bytes) : (startWrite f s).readAnswers = s.readAnswers := rfl
@[simp] theorem startWrite_inputs (f : Bytes) : (startWrite f s).inputs = s.inputs := rfl

/-! ### startRead -/

@[simp] theorem startRead_config : (startRead s).config = s.config := rfl
@[simp] theorem startRead_cmd : (startRead s).cmd = s.cmd := rfl
@[simp] theorem startRead_txf : (startRead s).txf = s.txf := rfl
@[simp] theorem startRead_rxf : (startRead s).rxf = none := rfl
@[simp] theorem startRead_rxlen : (startRead s).rxlen = none := rfl
@[simp] theorem startRead_encPhase : (startRead s).encPhase = s.encPhase := rfl
@[simp] theorem startRead_decPhase : (startRead s).decPhase = .await := rfl
@[simp] theorem startRead_res : (startRead s).res = none := rfl
@[simp] theorem startRead_encOut : (startRead s).encOut = s.encOut := rfl
@[simp] theorem startRead_decOut : (startRead s).decOut = s.decOut := rfl
@[simp] theorem startRead_attached : (startRead s).attached = s.attached := rfl
@[simp] theorem startRead_txStream : (startRead s).txStream = s.txStream := rfl
@[simp] theorem startRead_rxTaken : (startRead s).rxTaken = s.rxTaken := rfl
@[simp] theorem startRead_calls : (startRead s).calls = s.calls ++ [.read 9] := rfl
@[simp] theorem startRead_writeAnswers : (startRead s).writeAnswers = s.writeAnswers := rfl
@[simp] theorem startRead_readAnswers : (startRead s).readAnswers = s.readAnswers := rfl
@[simp] theorem startRead_inputs : (startRead s).inputs = s.inputs := rfl

/-! ### transmit -/

@[simp] theorem transmit_config (b : Bytes) : (transmit b s).config = s.config := rfl
@[simp] theorem transmit_cmd (b : Bytes) : (transmit b s).cmd = s.cmd := rfl
@[simp] theorem transmit_txf (b : Bytes) : (transmit b s).txf = s.txf := rfl
@[simp] theorem transmit_rxf (b : Bytes) : (transmit b s).rxf = s.rxf := rfl
@[simp] theorem transmit_rxlen (b : Bytes) : (transmit b s).rxlen = s.rxlen := rfl
@[simp] theorem transmit_encPhase (b : Bytes) : (transmit b s).encPhase = s.encPhase := rfl
@[simp] theorem transmit_decPhase (b : Bytes) : (transmit b s).decPhase = s.decPhase := rfl
@[simp] theorem transmit_res (b : Bytes) : (transmit b s).res = s.res := rfl
@[simp] theorem transmit_encOut (b : Bytes) : (transmit b s).encOut = s.encOut := rfl
@[simp] theorem transmit_decOut (b : Bytes) : (transmit b s).decOut = s.decOut := rfl
@[simp] theorem transmit_attached (b : Bytes) : (transmit b s).attached = s.attached := rfl
@[simp] theorem transmit_txStream (b : Bytes) : (transmit b s).txStream = s.txStream ++ b := rfl
@[simp] theorem transmit_rxTaken (b : Bytes) : (transmit b s).rxTaken = s.rxTaken := rfl
@[simp] theorem transmit_calls (b : Bytes) : (transmit b s).calls = s.calls := rfl
@[simp] theorem transmit_writeAnswers (b : Bytes) : (transmit b s).writeAnswers = s.writeAnswers := rfl
@[simp] theorem transmit_readAnswers (b : Bytes) : (transmit b s).readAnswers = s.readAnswers := rfl
@[simp] theorem transmit_inputs (b : Bytes) : (transmit b s).inputs = s.inputs := rfl

/-! ### receive -/

@[simp] theorem receive_config (b : Bytes) : (receive b s).config = s.config := rfl
@[simp] theorem receive_cmd (b : Bytes) : (receive b s).cmd = s.cmd := rfl
@[simp] theorem receive_txf (b : Bytes) : (receive b s).txf = s.txf := rfl
@[simp] theorem receive_rxf (b : Bytes) : (receive b s).rxf = some b := rfl
@[simp] theorem receive_rxlen (b : Bytes) : (receive b s).rxlen = some b.length := rfl
@[simp] theorem receive_encPhase (b : Bytes) : (receive b s).encPhase = s.encPhase := rfl
@[simp] theorem receive_decPhase (b : Bytes) : (receive b s).decPhase = s.decPhase := rfl
@[simp] theorem receive_res (b : Bytes) : (receive b s).res = s.res := rfl
@[simp] theorem receive_encOut (b : Bytes) : (receive b s).encOut = s.encOut := rfl
@[simp] theorem receive_decOut (b : Bytes) : (receive b s).decOut = s.decOut := rfl
@[simp] theorem receive_attached (b : Bytes) : (receive b s).attached = s.attached := rfl
@[simp] theorem receive_txStream (b : Bytes) : (receive b s).txStream = s.txStream := rfl
@[simp] theorem receive_rxTaken (b : Bytes) : (receive b s).rxTaken = s.rxTaken ++ b := rfl
@[simp] theorem receive_calls (b : Bytes) : (receive b s).calls = s.calls := rfl
@[simp] theorem receive_writeAnswers (b : Bytes) : (receive b s).writeAnswers = s.writeAnswers := rfl
@[simp] theorem receive_readAnswers (b : Bytes) : (receive b s).readAnswers = s.readAnswers := rfl
@[simp] theorem receive_inputs (b : Bytes) : (receive b s).inputs = s.inputs := rfl

/-! ### dropInput -/

@[simp] theorem dropInput_config (l : List Input) : (dropInput l s).config = s.config := rfl
@[simp] theorem dropInput_cmd (l : List Input) : (dropInput l s).cmd = s.cmd := rfl
@[simp] theorem dropInput_txf (l : List Input) : (dropInput l s).txf = s.txf := rfl
@[simp] theorem dropInput_rxf (l : List Input) : (dropInput l s).rxf = s.rxf := rfl
@[simp] theorem dropInput_rxlen (l : List Input) : (dropInput l s).rxlen = s.rxlen := rfl
@[simp] theorem dropInput_encPhase (l : List Input) : (dropInput l s).encPhase = s.encPhase := rfl
@[simp] theorem dropInput_decPhase (l : List Input) : (dropInput l s).decPhase = s.decPhase := rfl
@[simp] theorem dropInput_res (l : List Input) : (dropInput l s).res = s.res := rfl
@[simp] theorem dropInput_encOut (l : List Input) : (dropInput l s).encOut = s.encOut := rfl
@[simp] theorem dropInput_decOut (l : List Input) : (dropInput l s).decOut = s.decOut := rfl
@[simp] theorem dropInput_attached (l : List Input) : (dropInput l s).attached = s.attached := rfl
@[simp] theorem dropInput_txStream (l : List Input) : (dropInput l s).txStream = s.txStream := rfl
@[simp] theorem dropInput_rxTaken (l : List Input) : (dropInput l s).rxTaken = s.rxTaken := rfl
@[simp] theorem dropInput_calls (l : List Input) : (dropInput l s).calls = s.calls := rfl
@[simp] theorem dropInput_writeAnswers (l : List Input) : (dropInput l s).writeAnswers = s.writeAnswers := rfl
@[simp] theorem dropInput_readAnswers (l : List Input) : (dropInput l s).readAnswers = s.readAnswers := rfl
@[simp] theorem dropInput_inputs (l : List Input) : (dropInput l s).inputs = l := rfl

/-! ### attachChannel -/

@[simp] theorem attachChannel_config : (attachChannel s).config = s.config := rfl
@[simp] theorem attachChannel_cmd : (attachChannel s).cmd = s.cmd := rfl
@[simp] theorem attachChannel_txf : (attachChannel s).txf = s.txf := rfl
@[simp] theorem attachChannel_rxf : (attachChannel s).rxf = s.rxf := rfl
@[simp] theorem attachChannel_rxlen : (attachChannel s).rxlen = s.rxlen := rfl
@[simp] theorem attachChannel_encPhase : (attachChannel s).encPhase = s.encPhase := rfl
@[simp] theorem attachChannel_decPhase : (attachChannel s).decPhase = s.decPhase := rfl
@[simp] theorem attachChannel_res : (attachChannel s).res = s.res := rfl
@[simp] theorem attachChannel_encOut : (attachChannel s).encOut = s.encOut := rfl
@[simp] theorem attachChannel_decOut : (attachChannel s).decOut = s.decOut := rfl
@[simp] theorem attachChannel_attached : (attachChannel s).attached = true := rfl
@[simp] theorem attachChannel_txStream : (attachChannel s).txStream = s.txStream := rfl
@[simp] theorem attachChannel_rxTaken : (attachChannel s).rxTaken = s.rxTaken := rfl
@[simp] theorem attachChannel_calls : (attachChannel s).calls = s.calls := rfl
@[simp] theorem attachChannel_writeAnswers : (attachChannel s).writeAnswers = s.writeAnswers := rfl
@[simp] theorem attachChannel_readAnswers : (attachChannel s).readAnswers = s.readAnswers := rfl
@[simp] theorem attachChannel_inputs : (attachChannel s).inputs = s.inputs := rfl

/-! ### resetCodec -/

@[simp] theorem resetCodec_config (d : ResetDraw) : (resetCodec d s).config = s.config := rfl
@[simp] theorem resetCodec_cmd (d : ResetDraw) : (resetCodec d s).cmd = none := rfl
@[simp] theorem resetCodec_txf (d : ResetDraw) : (resetCodec d s).txf = none := rfl
@[simp] theorem resetCodec_rxf (d : ResetDraw) : (resetCodec d s).rxf = none := rfl
@[simp] theorem resetCodec_rxlen (d : ResetDraw) : (resetCodec d s).rxlen = none := rfl
@[simp] theorem resetCodec_encPhase (d : ResetDraw) : (resetCodec d s).encPhase = .idle := rfl
@[simp] theorem resetCodec_decPhase (d : ResetDraw) : (resetCodec d s).decPhase = .idle := rfl
@[simp] theorem resetCodec_res (d : ResetDraw) : (resetCodec d s).res = none := rfl
@[simp] theorem resetCodec_encOut (d : ResetDraw) : (resetCodec d s).encOut = none := rfl
@[simp] theorem resetCodec_decOut (d : ResetDraw) : (resetCodec d s).decOut = none := rfl
@[simp] theorem resetCodec_attached (d : ResetDraw) : (resetCodec d s).attached = s.attached := rfl
@[simp] theorem resetCodec_txStream (d : ResetDraw) : (resetCodec d s).txStream = s.txStream ++ abandonedWrite d s := rfl
@[simp] theorem resetCodec_rxTaken (d : ResetDraw) : (resetCodec d s).rxTaken = s.rxTaken ++ abandonedRead d s := rfl
@[simp] theorem resetCodec_calls (d : ResetDraw) : (resetCodec d s).calls = s.calls := rfl
@[simp] theorem resetCodec_writeAnswers (d : ResetDraw) : (resetCodec d s).writeAnswers = s.writeAnswers := rfl
@[simp] theorem resetCodec_readAnswers (d : ResetDraw) : (resetCodec d s).readAnswers = s.readAnswers := rfl
@[simp] theorem resetCodec_inputs (d : ResetDraw) : (resetCodec d s).inputs = s.inputs := rfl

/-! ### withFetchWord and the phases -/

@[simp] theorem withFetchWord_inputs (nbits w : Nat) :
    (s.withFetchWord nbits w).inputs = .issue (tableIssue nbits w) :: s.inputs := rfl

@[simp] theorem dropInput_withFetchWord (nbits w : Nat) :
    dropInput s.inputs (s.withFetchWord nbits w) = s := rfl

/-- `busy` in the words of R203. -/
theorem busy_eq_false_iff : s.busy = false ↔ s.encPhase ≠ .writing ∧ s.decPhase ≠ .await := by
  simp [State.busy]

end Sys2Proof.Machine
end

