-- ==== Sys2Proof/Laws/Ops.lean ====
section
/-! SUPPORT. For each shared operation, what it can do when it answers a next state. -/

namespace Sys2Proof.Machine

variable {s t : State}

/-- A position of the frame byte space that holds a byte (R40). -/
theorem framePosition_of_byte (r : Reg) {f : Bytes} {k : Nat} {b : Byte} (hk : k < 9) (h : f[k]? = some b) :
    framePosition r f k = .ok b := by simp [framePosition, readReg, hk, h]

/-- A position to which a short read brought no byte (R34). -/
theorem framePosition_of_length_le (r : Reg) {f : Bytes} {k : Nat} (hk : k < 9) (h : f.length ≤ k) :
    framePosition r f k = .error (.noValue r) := by simp [framePosition, readReg, hk, h]

/-- No position above 8 exists, however long the buffer is (R40). -/
theorem framePosition_of_nine_le (r : Reg) (f : Bytes) {k : Nat} (hk : 9 ≤ k) :
    framePosition r f k = .error (.noPosition k) := by simp [framePosition, Nat.not_lt.2 hk]

/-- An operation that reached a next state was ready, and ran (R202, R203). -/
theorem whenReady_next {run : State → StepResult} (h : whenReady s run = .next t) :
    Ready s ∧ run s = .next t := by
  unfold whenReady at h
  split at h
  · cases h
  · split at h
    · rename_i hb ha
      have := (busy_eq_false_iff s).1 (by simpa using hb)
      exact ⟨⟨this.1, this.2, ha⟩, h⟩
    · cases h

theorem whenReady_of_ready {run : State → StepResult} (h : Ready s) : whenReady s run = run s := by
  obtain ⟨h1, h2, h3⟩ := h
  simp [whenReady, (busy_eq_false_iff s).2 ⟨h1, h2⟩, h3]

/-- The end of a write whose `TXF` holds the frame `f` (R104, R105). -/
theorem finishWrite_of_txf {f : Bytes} (h : s.txf = some f) (a : WriteAnswer) :
    finishWrite a s = .next (match a with
      | .ok => returnEncoder f (transmit f s)
      | .err e n => raiseEncoder (.ioError (.writeFailed e)) (transmit (f.take n) s)) := by
  cases a <;> simp [finishWrite, readReg, h]

/-- A write ends in one of two ways, and only where `TXF` holds a frame (R104, R105). -/
theorem finishWrite_next {a : WriteAnswer} (h : finishWrite a s = .next t) :
    ∃ f, s.txf = some f ∧
      ((a = .ok ∧ t = returnEncoder f (transmit f s)) ∨
        ∃ e n, a = .err e n ∧
          t = raiseEncoder (.ioError (.writeFailed e)) (transmit (f.take n) s)) := by
  cases hf : s.txf with
  | none => simp [finishWrite, readReg, hf] at h
  | some f =>
    rw [finishWrite_of_txf hf] at h
    refine ⟨f, rfl, ?_⟩
    cases a with
    | ok => exact .inl ⟨rfl, by simpa using h.symm⟩
    | err e n => exact .inr ⟨e, n, rfl, by simpa using h.symm⟩

/-- A write waits, or the next drawn answer ends it (R47, R104). -/
theorem awaitWrite_cases :
    (s.writeAnswers = [] ∧ awaitWrite s = .next s) ∨
      ∃ a rest, s.writeAnswers = a :: rest ∧
        awaitWrite s = finishWrite a { s with writeAnswers := rest } := by
  cases h : s.writeAnswers with
  | nil => exact .inl ⟨rfl, by simp [awaitWrite, h]⟩
  | cons a rest => exact .inr ⟨a, rest, rfl, by simp [awaitWrite, h]⟩

/-- A read ends in one of three ways (R120, R121). -/
theorem finishRead_cases (a : ReadAnswer) :
    (∃ e, a = .err e ∧ finishRead a s = raiseDecoder (.ioError (.readFailed e)) s) ∨
      (∃ b r, a = .bytes b ∧ replyOutcome s.config b = .ok r ∧
        finishRead a s = returnDecoder r (receive b s)) ∨
      ∃ b e, a = .bytes b ∧ replyOutcome s.config b = .error e ∧
        finishRead a s = raiseDecoder e (receive b s) := by
  cases a with
  | err e => exact .inl ⟨e, rfl, rfl⟩
  | bytes b =>
    cases h : replyOutcome s.config b with
    | ok r => exact .inr (.inl ⟨b, r, rfl, h, by simp [finishRead, h]⟩)
    | error e => exact .inr (.inr ⟨b, e, rfl, h, by simp [finishRead, h]⟩)

/-- A read waits, or the next drawn answer ends it (R47, R132). -/
theorem awaitRead_cases :
    (s.readAnswers = [] ∧ awaitRead s = .next s) ∨
      ∃ a rest, s.readAnswers = a :: rest ∧
        awaitRead s = .next (finishRead a { s with readAnswers := rest }) := by
  cases h : s.readAnswers with
  | nil => exact .inl ⟨rfl, by simp [awaitRead, h]⟩
  | cons a rest => exact .inr ⟨a, rest, rfl, by simp [awaitRead, h]⟩

/-- All that an `ENCODE` with a next state can have done (R100). -/
theorem encodeOp_next {c : Command} (h : encodeOp c s = .next t) :
    Ready s ∧
      ((∃ e, checkCommand s.config c = some e ∧ t = raiseEncoder e (issueCommand c s)) ∨
        checkCommand s.config c = none ∧ sendCommand c (issueCommand c s) = .next t) := by
  obtain ⟨hr, h⟩ := whenReady_next h
  refine ⟨hr, ?_⟩
  cases hc : checkCommand s.config c with
  | some e => exact .inl ⟨e, rfl, by simpa [hc] using h.symm⟩
  | none => exact .inr ⟨rfl, by simpa [hc] using h⟩

/-- All that a `DECODE` with a next state can have done (R120). -/
theorem decodeOp_next {d : Option ReadAnswer} (h : decodeOp d s = .next t) :
    Ready s ∧
      ((∃ a, d = some a ∧ t = finishRead a (startRead s)) ∨
        d = none ∧ awaitRead (startRead s) = .next t) := by
  obtain ⟨hr, h⟩ := whenReady_next h
  refine ⟨hr, ?_⟩
  cases d with
  | some a => exact .inl ⟨a, rfl, by simpa using h.symm⟩
  | none => exact .inr ⟨rfl, h⟩

/-- The bytes a read delivers decide its outcome by their number first (R121, R128). -/
theorem replyOutcome_of_length_ne {cfg : Config} {b : Bytes} (h : b.length ≠ 9) :
    replyOutcome cfg b = .error (lengthError b.length) := by
  simp [replyOutcome, (parseReply_eq_none_iff b).2 h]

/-- Every row that issues a command is `encodeOp` on it, and every other row `decodeOp` (R79, R100,
R120). -/
theorem exec_eq_shared (i : Instr) (s : State) :
    exec i s = match commandOf i with
      | some c => encodeOp c s
      | none => decodeOp ((replyOf i).map fun r => .bytes (replyFrame r)) s := by
  cases i <;> rfl

/-- A step takes the next input, and each kind of input has one effect. -/
theorem step_cases (s : State) :
    (s.inputs = [] ∧ step s = .next s) ∨
      (∃ p i rest, s.inputs = .issue p :: rest ∧ decode p = .ok i ∧
        step s = exec i (dropInput rest s)) ∨
      (∃ p e rest, s.inputs = .issue p :: rest ∧ decode p = .error e ∧
        step s = .refused (refusalOf e)) ∨
      (∃ a rest, s.inputs = .writeAnswer a :: rest ∧
        step s = acceptWriteAnswer a (dropInput rest s)) ∨
      (∃ a rest, s.inputs = .readAnswer a :: rest ∧
        step s = acceptReadAnswer a (dropInput rest s)) ∨
      (∃ d rest, s.inputs = .reset d :: rest ∧
        step s = .next (resetCodec d (dropInput rest s))) ∨
      ∃ rest, s.inputs = .attachChannel :: rest ∧
        step s = .next (attachChannel (dropInput rest s)) := by
  unfold step
  cases h : s.inputs with
  | nil => simp
  | cons ev rest =>
    cases ev with
    | issue p => cases hd : decode p <;> simp [hd]
    | writeAnswer a => simp
    | readAnswer a => simp
    | reset d => simp
    | attachChannel => simp

end Sys2Proof.Machine
end

