-- ==== Sys2Proof/Laws/PerInstr.lean ====
section
/-! SUPPORT. Per instruction: the shape of its encoding. -/

namespace Sys2Proof.Laws.FrameLength

open Sys2Proof

/-- The encoding has the shape R60 and R61 give it: five operands with `OP = 0` and none with `OP = 1`, and
9 bytes in a frame word. -/
def Statement (i : Instr) : Prop :=
  match encode i with
  | .select op operands => operands.length = if op = 0#1 then 5 else 0
  | .request f => f.length = 9
  | .reply f => f.length = 9

theorem encode (address instruction type motor value : Int) :
    Statement (.encode address instruction type motor value) := rfl

theorem decode : Statement .decode := rfl

theorem encodeRor (address type motor value : Int) :
    Statement (.encodeRor address type motor value) := rfl

theorem encodeRol (address type motor value : Int) :
    Statement (.encodeRol address type motor value) := rfl

theorem encodeMst (address type motor value : Int) :
    Statement (.encodeMst address type motor value) := rfl

theorem encodeMvp (address type motor value : Int) :
    Statement (.encodeMvp address type motor value) := rfl

theorem encodeSap (address type motor value : Int) :
    Statement (.encodeSap address type motor value) := rfl

theorem encodeGap (address type motor value : Int) :
    Statement (.encodeGap address type motor value) := rfl

theorem encodeStap (address type motor value : Int) :
    Statement (.encodeStap address type motor value) := rfl

theorem encodeRsap (address type motor value : Int) :
    Statement (.encodeRsap address type motor value) := rfl

theorem encodeSgp (address type motor value : Int) :
    Statement (.encodeSgp address type motor value) := rfl

theorem encodeGgp (address type motor value : Int) :
    Statement (.encodeGgp address type motor value) := rfl

theorem encodeStgp (address type motor value : Int) :
    Statement (.encodeStgp address type motor value) := rfl

theorem encodeRsgp (address type motor value : Int) :
    Statement (.encodeRsgp address type motor value) := rfl

theorem encodeRfs (address type motor value : Int) :
    Statement (.encodeRfs address type motor value) := rfl

theorem encodeSio (address type motor value : Int) :
    Statement (.encodeSio address type motor value) := rfl

theorem encodeGio (address type motor value : Int) :
    Statement (.encodeGio address type motor value) := rfl

theorem encodeSco (address type motor value : Int) :
    Statement (.encodeSco address type motor value) := rfl

theorem encodeGco (address type motor value : Int) :
    Statement (.encodeGco address type motor value) := rfl

theorem encodeCco (address type motor value : Int) :
    Statement (.encodeCco address type motor value) := rfl

theorem encodeApplStop (address type motor value : Int) :
    Statement (.encodeApplStop address type motor value) := rfl

theorem encodeApplRun (address type motor value : Int) :
    Statement (.encodeApplRun address type motor value) := rfl

theorem encodeApplReset (address type motor value : Int) :
    Statement (.encodeApplReset address type motor value) := rfl

theorem encodeMvpAbs (address motor value : Int) :
    Statement (.encodeMvpAbs address motor value) := rfl

theorem encodeMvpRel (address motor value : Int) :
    Statement (.encodeMvpRel address motor value) := rfl

theorem encodeMvpCoord (address motor value : Int) :
    Statement (.encodeMvpCoord address motor value) := rfl

theorem encodeRfsStart (address motor value : Int) :
    Statement (.encodeRfsStart address motor value) := rfl

theorem encodeRfsStop (address motor value : Int) :
    Statement (.encodeRfsStop address motor value) := rfl

theorem encodeRfsStatus (address motor value : Int) :
    Statement (.encodeRfsStatus address motor value) := rfl

theorem decodeStatus100 (replyAddress moduleAddress echoedInstruction : Byte) (value : Int) (checksum : Byte) :
    Statement (.decodeStatus100 replyAddress moduleAddress echoedInstruction value checksum) := rfl

theorem decodeStatus101 (replyAddress moduleAddress echoedInstruction : Byte) (value : Int) (checksum : Byte) :
    Statement (.decodeStatus101 replyAddress moduleAddress echoedInstruction value checksum) := rfl

theorem decodeStatus1 (replyAddress moduleAddress echoedInstruction : Byte) (value : Int) (checksum : Byte) :
    Statement (.decodeStatus1 replyAddress moduleAddress echoedInstruction value checksum) := rfl

theorem decodeStatus2 (replyAddress moduleAddress echoedInstruction : Byte) (value : Int) (checksum : Byte) :
    Statement (.decodeStatus2 replyAddress moduleAddress echoedInstruction value checksum) := rfl

theorem decodeStatus3 (replyAddress moduleAddress echoedInstruction : Byte) (value : Int) (checksum : Byte) :
    Statement (.decodeStatus3 replyAddress moduleAddress echoedInstruction value checksum) := rfl

theorem decodeStatus4 (replyAddress moduleAddress echoedInstruction : Byte) (value : Int) (checksum : Byte) :
    Statement (.decodeStatus4 replyAddress moduleAddress echoedInstruction value checksum) := rfl

theorem decodeStatus5 (replyAddress moduleAddress echoedInstruction : Byte) (value : Int) (checksum : Byte) :
    Statement (.decodeStatus5 replyAddress moduleAddress echoedInstruction value checksum) := rfl

theorem decodeStatus6 (replyAddress moduleAddress echoedInstruction : Byte) (value : Int) (checksum : Byte) :
    Statement (.decodeStatus6 replyAddress moduleAddress echoedInstruction value checksum) := rfl

theorem decodeStatusUnknown (replyAddress moduleAddress status echoedInstruction : Byte) (value : Int) (checksum : Byte) :
    Statement (.decodeStatusUnknown replyAddress moduleAddress status echoedInstruction value checksum) := rfl

end Sys2Proof.Laws.FrameLength
end

