-- ==== Sys2Proof/Tests/Slice0.lean ====
section
/-! SUPPORT. The model's own tests. Expected results are the vectors of spec/95_test_vectors.md or counted by
hand from R65 and R66, as each comment says. -/

namespace Sys2Proof.Tests

open Sys2Proof Sys2Proof.Machine

/-- The one error value of the channel that every choice of the parameter admits (R9). -/
def someError : ChanErr := ⟨0, .inl rfl⟩

/-- A state right after reset, with these answers to come. -/
def answering (w : List WriteAnswer) (r : List ReadAnswer) : State :=
  { State.reset with writeAnswers := w, readAnswers := r }

/-- The same with strict mode off. -/
def lenient (s : State) : State := { s with config := ⟨false, "unknown error"⟩ }

def nextState (o : StepResult) : Option State :=
  match o with
  | .next t => some t
  | .fault _ | .refused _ => none

def encOutcome (o : StepResult) : Option EncOutcome := (nextState o).bind State.encOut

def decOutcome (o : StepResult) : Option DecOutcome := (nextState o).bind State.decOut

def refusal (o : StepResult) : Option Refusal :=
  match o with
  | .refused r => some r
  | .next _ | .fault _ => none

/-! ### Well-formedness: an ill-formed term for each check -/

theorem test_illformed_address_over_u8 :
    (.encodeRor 256 0 0 0 : Instr).wellFormed = false := by decide

theorem test_illformed_type_negative :
    (.encodeSap 1 (-1) 0 0 : Instr).wellFormed = false := by decide

theorem test_illformed_motor_over_u8 :
    (.encodeMst 1 0 256 0 : Instr).wellFormed = false := by decide

theorem test_illformed_value_over_i32 :
    (.encodeGap 1 0 0 2147483648 : Instr).wellFormed = false := by decide

theorem test_illformed_suboption_motor :
    (.encodeMvpAbs 1 300 0 : Instr).wellFormed = false := by decide

theorem test_illformed_suboption_value :
    (.encodeRfsStop 1 0 (-2147483649) : Instr).wellFormed = false := by decide

theorem test_illformed_mvp_with_suboption_type :
    (.encodeMvp 1 2 0 0 : Instr).wellFormed = false := by decide

theorem test_illformed_rfs_with_suboption_type :
    (.encodeRfs 1 0 0 0 : Instr).wellFormed = false := by decide

theorem test_illformed_reply_value_over_i32 :
    (.decodeStatus100 1 1 4 2147483648 0 : Instr).wellFormed = false := by decide

theorem test_illformed_unknown_row_with_known_status :
    (.decodeStatusUnknown 1 1 6 4 0 0 : Instr).wellFormed = false := by decide

theorem test_illformed_unknown_row_value_under_i32 :
    (.decodeStatusUnknown 1 1 7 4 (-2147483649) 0 : Instr).wellFormed = false := by decide

/-! ### Decoding: a word written out for each row (R60, R62, R64) -/

theorem test_decode_encode :
    decode (.select 0 [300, 16, -1, 0, 2147483648]) = .ok (.encode 300 16 (-1) 0 2147483648) := by decide

theorem test_decode_decode : decode (.select 1 []) = .ok .decode := by decide

theorem test_decode_rejects :
    decode (.select 0 [1, 4, 0, 0]) = .error .operandCount ∧
    decode (.select 1 [1]) = .error .operandCount ∧
    decode (.request [0x01, 0x04]) = .error .frameLength ∧ decode (.reply []) = .error .frameLength := by
  decide

theorem test_decode_encodeRor :
    decode (.request [0x01, 0x01, 0x00, 0x00, 0x00, 0x00, 0x01, 0xF4, 0xF7]) =
      .ok (.encodeRor 1 0 0 500) := by decide

theorem test_decode_encodeRol :
    decode (.request [0x01, 0x02, 0x00, 0x02, 0xFF, 0xFF, 0xFE, 0x0C, 0x0D]) =
      .ok (.encodeRol 1 0 2 (-500)) := by decide

theorem test_decode_encodeMst :
    decode (.request [0x01, 0x03, 0x00, 0x00, 0x00, 0x00, 0x00, 0x00, 0x04]) =
      .ok (.encodeMst 1 0 0 0) := by decide

theorem test_decode_encodeMvp :
    decode (.request [0x01, 0x04, 0x07, 0x00, 0x00, 0x00, 0x00, 0x00, 0x0C]) =
      .ok (.encodeMvp 1 7 0 0) := by decide

theorem test_decode_encodeSap :
    decode (.request [0x01, 0x05, 0x04, 0x00, 0x00, 0x00, 0xC8, 0x00, 0xD2]) =
      .ok (.encodeSap 1 4 0 51200) := by decide

theorem test_decode_encodeGap :
    decode (.request [0x01, 0x06, 0x01, 0x00, 0x00, 0x00, 0x00, 0x00, 0x08]) =
      .ok (.encodeGap 1 1 0 0) := by decide

theorem test_decode_encodeStap :
    decode (.request [0x01, 0x07, 0x04, 0x00, 0x00, 0x00, 0x00, 0x00, 0x0C]) =
      .ok (.encodeStap 1 4 0 0) := by decide

theorem test_decode_encodeRsap :
    decode (.request [0x01, 0x08, 0x04, 0x03, 0x00, 0x00, 0x00, 0x00, 0x10]) =
      .ok (.encodeRsap 1 4 3 0) := by decide

theorem test_decode_encodeSgp :
    decode (.request [0x01, 0x09, 0x10, 0x00, 0x00, 0x00, 0x00, 0x05, 0x1F]) =
      .ok (.encodeSgp 1 16 0 5) := by decide

theorem test_decode_encodeGgp :
    decode (.request [0x01, 0x0A, 0x10, 0x00, 0x00, 0x00, 0x00, 0x00, 0x1B]) =
      .ok (.encodeGgp 1 16 0 0) := by decide

theorem test_decode_encodeStgp :
    decode (.request [0x01, 0x0B, 0x10, 0x00, 0x00, 0x00, 0x00, 0x00, 0x1C]) =
      .ok (.encodeStgp 1 16 0 0) := by decide

theorem test_decode_encodeRsgp :
    decode (.request [0x01, 0x0C, 0x10, 0x00, 0x00, 0x00, 0x00, 0x00, 0x1D]) =
      .ok (.encodeRsgp 1 16 0 0) := by decide

theorem test_decode_encodeRfs :
    decode (.request [0x01, 0x0D, 0x03, 0x00, 0x00, 0x00, 0x00, 0x00, 0x11]) =
      .ok (.encodeRfs 1 3 0 0) := by decide

theorem test_decode_encodeSio :
    decode (.request [0x01, 0x0E, 0x02, 0x00, 0x00, 0x00, 0x00, 0x01, 0x12]) =
      .ok (.encodeSio 1 2 0 1) := by decide

theorem test_decode_encodeGio :
    decode (.request [0x01, 0x0F, 0x02, 0x00, 0x00, 0x00, 0x00, 0x00, 0x12]) =
      .ok (.encodeGio 1 2 0 0) := by decide

theorem test_decode_encodeSco :
    decode (.request [0x01, 0x1E, 0x00, 0x00, 0xFF, 0xFF, 0xFF, 0xFF, 0x1B]) =
      .ok (.encodeSco 1 0 0 (-1)) := by decide

theorem test_decode_encodeGco :
    decode (.request [0x01, 0x1F, 0x00, 0x00, 0x00, 0x00, 0x00, 0x00, 0x20]) =
      .ok (.encodeGco 1 0 0 0) := by decide

theorem test_decode_encodeCco :
    decode (.request [0x01, 0x20, 0x00, 0x00, 0x00, 0x00, 0x00, 0x00, 0x21]) =
      .ok (.encodeCco 1 0 0 0) := by decide

theorem test_decode_encodeApplStop :
    decode (.request [0xFF, 0x80, 0x00, 0x00, 0x00, 0x00, 0x00, 0x00, 0x7F]) =
      .ok (.encodeApplStop 255 0 0 0) := by decide

theorem test_decode_encodeApplRun :
    decode (.request [0x01, 0x81, 0x00, 0x00, 0x00, 0x00, 0x00, 0x00, 0x82]) =
      .ok (.encodeApplRun 1 0 0 0) := by decide

theorem test_decode_encodeApplReset :
    decode (.request [0x01, 0x83, 0x00, 0x00, 0x00, 0x00, 0x00, 0x00, 0x84]) =
      .ok (.encodeApplReset 1 0 0 0) := by decide

theorem test_decode_encodeMvpAbs :
    decode (.request [0x01, 0x04, 0x00, 0x00, 0x80, 0x00, 0x00, 0x00, 0x85]) =
      .ok (.encodeMvpAbs 1 0 (-2147483648)) := by decide

theorem test_decode_encodeMvpRel :
    decode (.request [0x01, 0x04, 0x01, 0x00, 0xFF, 0xFF, 0xFC, 0x18, 0x18]) =
      .ok (.encodeMvpRel 1 0 (-1000)) := by decide

theorem test_decode_encodeMvpCoord :
    decode (.request [0x01, 0x04, 0x02, 0x00, 0x00, 0x00, 0x00, 0x01, 0x08]) =
      .ok (.encodeMvpCoord 1 0 1) := by decide

theorem test_decode_encodeRfsStart :
    decode (.request [0x01, 0x0D, 0x00, 0x00, 0x00, 0x00, 0x00, 0x00, 0x0E]) =
      .ok (.encodeRfsStart 1 0 0) := by decide

theorem test_decode_encodeRfsStop :
    decode (.request [0x01, 0x0D, 0x01, 0x00, 0x00, 0x00, 0x00, 0x00, 0x0F]) =
      .ok (.encodeRfsStop 1 0 0) := by decide

theorem test_decode_encodeRfsStatus :
    decode (.request [0x01, 0x0D, 0x02, 0x00, 0x00, 0x00, 0x00, 0x00, 0x10]) =
      .ok (.encodeRfsStatus 1 0 0) := by decide

theorem test_decode_decodeStatus100 :
    decode (.reply [0x02, 0x01, 0x64, 0x06, 0xFF, 0xFF, 0xFC, 0x18, 0x7F]) =
      .ok (.decodeStatus100 2 1 6 (-1000) 0x7F) := by decide

theorem test_decode_decodeStatus101 :
    decode (.reply [0x02, 0x01, 0x65, 0x06, 0x00, 0x00, 0x00, 0x00, 0x6E]) =
      .ok (.decodeStatus101 2 1 6 0 0x6E) := by decide

theorem test_decode_decodeStatus1 :
    decode (.reply [0x02, 0x01, 0x01, 0x06, 0x00, 0x00, 0x00, 0x00, 0x0A]) =
      .ok (.decodeStatus1 2 1 6 0 0x0A) := by decide

theorem test_decode_decodeStatus2 :
    decode (.reply [0x02, 0x01, 0x02, 0x06, 0x00, 0x00, 0x00, 0x00, 0x0B]) =
      .ok (.decodeStatus2 2 1 6 0 0x0B) := by decide

theorem test_decode_decodeStatus3 :
    decode (.reply [0x02, 0x01, 0x03, 0x06, 0x00, 0x00, 0x00, 0x00, 0x0D]) =
      .ok (.decodeStatus3 2 1 6 0 0x0D) := by decide

theorem test_decode_decodeStatus4 :
    decode (.reply [0x02, 0x01, 0x04, 0x06, 0x00, 0x00, 0x00, 0x00, 0x0D]) =
      .ok (.decodeStatus4 2 1 6 0 0x0D) := by decide

theorem test_decode_decodeStatus5 :
    decode (.reply [0x02, 0x01, 0x05, 0x06, 0x00, 0x00, 0x00, 0x00, 0x0E]) =
      .ok (.decodeStatus5 2 1 6 0 0x0E) := by decide

theorem test_decode_decodeStatus6 :
    decode (.reply [0x02, 0x01, 0x06, 0x06, 0x00, 0x00, 0x00, 0x00, 0x0F]) =
      .ok (.decodeStatus6 2 1 6 0 0x0F) := by decide

theorem test_decode_decodeStatusUnknown :
    decode (.reply [0x02, 0x01, 0xC8, 0x06, 0x00, 0x00, 0x00, 0x00, 0xD1]) =
      .ok (.decodeStatusUnknown 2 1 200 6 0 0xD1) := by decide

/-- Words of the opcode table in its own numbering, `match` values of the table. -/
theorem test_table_words :
    decodeTableWord 8 0 = some (.encode 0 0 0 0 0) ∧ decodeTableWord 8 1 = some .decode ∧
    decodeTableWord 72 0x000100000000000000 = some (.encodeRor 0 0 0 0) ∧
    decodeTableWord 72 0x008300000000000000 = some (.encodeApplReset 0 0 0 0) ∧
    decodeTableWord 72 0x000D02000000000000 = some (.encodeRfsStatus 0 0 0) ∧
    decodeTableWord 72 0x000065000000000000 = some (.decodeStatus101 0 0 0 0 0) ∧
    decodeTableWord 72 0 = some (.decodeStatusUnknown 0 0 0 0 0 0) := by decide

/-! ### ENCODE -/

/-- L2-C1 to L2-C4. -/
theorem test_checksum_vectors :
    checksum8 [0, 0, 0, 0, 0, 0, 0, 0] = 0 ∧
    checksum8 [0xFF, 0xFF, 0xFF, 0xFF, 0xFF, 0xFF, 0xFF, 0xFF] = 0xF8 ∧
    checksum8 [0x80, 0x80, 0, 0, 0, 0, 0, 0] = 0 ∧
    checksum8 [0x01, 0x04, 0, 0, 0, 0, 0x03, 0xE8] = 0xF0 := by decide

/-- L2-V1 to L2-V8. -/
theorem test_value_vectors :
    bePack32 1000 = [0x00, 0x00, 0x03, 0xE8] ∧ bePack32 (-1) = [0xFF, 0xFF, 0xFF, 0xFF] ∧
    bePack32 (-1000) = [0xFF, 0xFF, 0xFC, 0x18] ∧ bePack32 (-2147483648) = [0x80, 0, 0, 0] ∧
    bePack32 2147483647 = [0x7F, 0xFF, 0xFF, 0xFF] ∧
    beUnpack32 0x80 0 0 0 = -2147483648 ∧ beUnpack32 0 0 0x80 0 = 32768 ∧
    beUnpack32 0xFF 0xFF 0xFE 0x0C = -500 := by decide

/-- L1-1: the source's scenario with the checksum of the formula. -/
theorem test_exec_encode :
    (nextState (exec (.encode 1 4 0 0 1000) (answering [.ok] []))).map State.txStream =
      some [0x01, 0x04, 0x00, 0x00, 0x00, 0x00, 0x03, 0xE8, 0xF0] := by decide

/-- L2-E16 and L2-E13 with strict mode off. -/
theorem test_encode_lenient :
    encOutcome (exec (.encode 1 130 0 0 0) (lenient (answering [.ok] []))) =
      some (.ok [0x01, 0x82, 0, 0, 0, 0, 0, 0, 0x83]) ∧
    encOutcome (exec (.encode 255 255 255 255 (-1)) (lenient (answering [.ok] []))) =
      some (.ok [0xFF, 0xFF, 0xFF, 0xFF, 0xFF, 0xFF, 0xFF, 0xFF, 0xF8]) := by decide

/-- L2-E2, E15, E17 to E25, each clause of the check order at a boundary. -/
theorem test_violation_vectors :
    checkCommand ⟨true, ""⟩ ⟨0, 0, 0, 0, 0⟩ = some (.contractViolation .instruction 0 .notEnumerated) ∧
    checkCommand ⟨true, ""⟩ ⟨1, 130, 0, 0, 0⟩ = some (.contractViolation .instruction 130 .notEnumerated) ∧
    checkCommand ⟨true, ""⟩ ⟨256, 1, 0, 0, 0⟩ = some (.contractViolation .address 256 .outOfRange) ∧
    checkCommand ⟨true, ""⟩ ⟨-1, 1, 0, 0, 0⟩ = some (.contractViolation .address (-1) .outOfRange) ∧
    checkCommand ⟨false, ""⟩ ⟨1, 256, 0, 0, 0⟩ = some (.contractViolation .instruction 256 .outOfRange) ∧
    checkCommand ⟨true, ""⟩ ⟨1, 1, 300, 0, 0⟩ = some (.contractViolation .type 300 .outOfRange) ∧
    checkCommand ⟨true, ""⟩ ⟨1, 1, 0, 256, 0⟩ = some (.contractViolation .motor 256 .outOfRange) ∧
    checkCommand ⟨true, ""⟩ ⟨1, 1, 0, 0, 2147483648⟩ =
      some (.contractViolation .value 2147483648 .outOfRange) ∧
    checkCommand ⟨true, ""⟩ ⟨1, 1, 0, 0, -2147483649⟩ =
      some (.contractViolation .value (-2147483649) .outOfRange) ∧
    checkCommand ⟨true, ""⟩ ⟨300, 16, 300, 300, 2147483648⟩ =
      some (.contractViolation .address 300 .outOfRange) ∧
    checkCommand ⟨true, ""⟩ ⟨1, 16, 300, 0, 0⟩ =
      some (.contractViolation .instruction 16 .notEnumerated) := by decide

/-- L2-E17: no channel access. -/
theorem test_violation_makes_no_access :
    (nextState (exec (.encode 256 1 0 0 500) (answering [.ok] []))).map
      (fun t => (t.txStream, t.calls, t.txf, t.writeAnswers)) = some ([], [], none, [.ok]) := by decide

/-- L2-E27: the frame handed over, a drawn part of it on the wire, no second write. -/
theorem test_write_failed :
    (nextState (exec (.encode 1 1 0 0 500) (answering [.err someError 2, .ok] []))).map
      (fun t => (t.txStream, t.calls, t.encOut)) =
      some ([0x01, 0x01], [.write [0x01, 0x01, 0, 0, 0, 0, 0x01, 0xF4, 0xF7]],
        some (.error (.ioError (.writeFailed someError)))) := by decide

/-- L2-E27's frame. -/
theorem test_exec_encodeRor :
    encOutcome (exec (.encodeRor 1 0 0 500) (answering [.ok] [])) =
      some (.ok [0x01, 0x01, 0x00, 0x00, 0x00, 0x00, 0x01, 0xF4, 0xF7]) := by decide

/-- L2-E12. -/
theorem test_exec_encodeRol :
    encOutcome (exec (.encodeRol 1 0 2 (-500)) (answering [.ok] [])) =
      some (.ok [0x01, 0x02, 0x00, 0x02, 0xFF, 0xFF, 0xFE, 0x0C, 0x0D]) := by decide

/-- by hand, R65. -/
theorem test_exec_encodeMst :
    encOutcome (exec (.encodeMst 1 0 0 0) (answering [.ok] [])) =
      some (.ok [0x01, 0x03, 0x00, 0x00, 0x00, 0x00, 0x00, 0x00, 0x04]) := by decide

/-- L2-E26. -/
theorem test_exec_encodeMvp :
    encOutcome (exec (.encodeMvp 1 7 0 0) (answering [.ok] [])) =
      some (.ok [0x01, 0x04, 0x07, 0x00, 0x00, 0x00, 0x00, 0x00, 0x0C]) := by decide

/-- L2-E7. -/
theorem test_exec_encodeSap :
    encOutcome (exec (.encodeSap 1 4 0 51200) (answering [.ok] [])) =
      some (.ok [0x01, 0x05, 0x04, 0x00, 0x00, 0x00, 0xC8, 0x00, 0xD2]) := by decide

/-- L2-E8. -/
theorem test_exec_encodeGap :
    encOutcome (exec (.encodeGap 1 1 0 0) (answering [.ok] [])) =
      some (.ok [0x01, 0x06, 0x01, 0x00, 0x00, 0x00, 0x00, 0x00, 0x08]) := by decide

/-- by hand, R65. -/
theorem test_exec_encodeStap :
    encOutcome (exec (.encodeStap 1 4 0 0) (answering [.ok] [])) =
      some (.ok [0x01, 0x07, 0x04, 0x00, 0x00, 0x00, 0x00, 0x00, 0x0C]) := by decide

/-- by hand, R65. -/
theorem test_exec_encodeRsap :
    encOutcome (exec (.encodeRsap 1 4 3 0) (answering [.ok] [])) =
      some (.ok [0x01, 0x08, 0x04, 0x03, 0x00, 0x00, 0x00, 0x00, 0x10]) := by decide

/-- by hand, R65. -/
theorem test_exec_encodeSgp :
    encOutcome (exec (.encodeSgp 1 16 0 5) (answering [.ok] [])) =
      some (.ok [0x01, 0x09, 0x10, 0x00, 0x00, 0x00, 0x00, 0x05, 0x1F]) := by decide

/-- by hand, R65. -/
theorem test_exec_encodeGgp :
    encOutcome (exec (.encodeGgp 1 16 0 0) (answering [.ok] [])) =
      some (.ok [0x01, 0x0A, 0x10, 0x00, 0x00, 0x00, 0x00, 0x00, 0x1B]) := by decide

/-- by hand, R65. -/
theorem test_exec_encodeStgp :
    encOutcome (exec (.encodeStgp 1 16 0 0) (answering [.ok] [])) =
      some (.ok [0x01, 0x0B, 0x10, 0x00, 0x00, 0x00, 0x00, 0x00, 0x1C]) := by decide

/-- by hand, R65. -/
theorem test_exec_encodeRsgp :
    encOutcome (exec (.encodeRsgp 1 16 0 0) (answering [.ok] [])) =
      some (.ok [0x01, 0x0C, 0x10, 0x00, 0x00, 0x00, 0x00, 0x00, 0x1D]) := by decide

/-- by hand, R65. -/
theorem test_exec_encodeRfs :
    encOutcome (exec (.encodeRfs 1 3 0 0) (answering [.ok] [])) =
      some (.ok [0x01, 0x0D, 0x03, 0x00, 0x00, 0x00, 0x00, 0x00, 0x11]) := by decide

/-- by hand, R65. -/
theorem test_exec_encodeSio :
    encOutcome (exec (.encodeSio 1 2 0 1) (answering [.ok] [])) =
      some (.ok [0x01, 0x0E, 0x02, 0x00, 0x00, 0x00, 0x00, 0x01, 0x12]) := by decide

/-- by hand, R65. -/
theorem test_exec_encodeGio :
    encOutcome (exec (.encodeGio 1 2 0 0) (answering [.ok] [])) =
      some (.ok [0x01, 0x0F, 0x02, 0x00, 0x00, 0x00, 0x00, 0x00, 0x12]) := by decide

/-- by hand, R65 and R66. -/
theorem test_exec_encodeSco :
    encOutcome (exec (.encodeSco 1 0 0 (-1)) (answering [.ok] [])) =
      some (.ok [0x01, 0x1E, 0x00, 0x00, 0xFF, 0xFF, 0xFF, 0xFF, 0x1B]) := by decide

/-- by hand, R65. -/
theorem test_exec_encodeGco :
    encOutcome (exec (.encodeGco 1 0 0 0) (answering [.ok] [])) =
      some (.ok [0x01, 0x1F, 0x00, 0x00, 0x00, 0x00, 0x00, 0x00, 0x20]) := by decide

/-- by hand, R65. -/
theorem test_exec_encodeCco :
    encOutcome (exec (.encodeCco 1 0 0 0) (answering [.ok] [])) =
      some (.ok [0x01, 0x20, 0x00, 0x00, 0x00, 0x00, 0x00, 0x00, 0x21]) := by decide

/-- L2-E10. -/
theorem test_exec_encodeApplStop :
    encOutcome (exec (.encodeApplStop 255 0 0 0) (answering [.ok] [])) =
      some (.ok [0xFF, 0x80, 0x00, 0x00, 0x00, 0x00, 0x00, 0x00, 0x7F]) := by decide

/-- by hand, R65. -/
theorem test_exec_encodeApplRun :
    encOutcome (exec (.encodeApplRun 1 0 0 0) (answering [.ok] [])) =
      some (.ok [0x01, 0x81, 0x00, 0x00, 0x00, 0x00, 0x00, 0x00, 0x82]) := by decide

/-- L2-E11. -/
theorem test_exec_encodeApplReset :
    encOutcome (exec (.encodeApplReset 1 0 0 0) (answering [.ok] [])) =
      some (.ok [0x01, 0x83, 0x00, 0x00, 0x00, 0x00, 0x00, 0x00, 0x84]) := by decide

/-- L2-E3. -/
theorem test_exec_encodeMvpAbs :
    encOutcome (exec (.encodeMvpAbs 1 0 (-2147483648)) (answering [.ok] [])) =
      some (.ok [0x01, 0x04, 0x00, 0x00, 0x80, 0x00, 0x00, 0x00, 0x85]) := by decide

/-- L2-E5. -/
theorem test_exec_encodeMvpRel :
    encOutcome (exec (.encodeMvpRel 1 0 (-1000)) (answering [.ok] [])) =
      some (.ok [0x01, 0x04, 0x01, 0x00, 0xFF, 0xFF, 0xFC, 0x18, 0x18]) := by decide

/-- L2-E6. -/
theorem test_exec_encodeMvpCoord :
    encOutcome (exec (.encodeMvpCoord 1 0 1) (answering [.ok] [])) =
      some (.ok [0x01, 0x04, 0x02, 0x00, 0x00, 0x00, 0x00, 0x01, 0x08]) := by decide

/-- L2-E9. -/
theorem test_exec_encodeRfsStart :
    encOutcome (exec (.encodeRfsStart 1 0 0) (answering [.ok] [])) =
      some (.ok [0x01, 0x0D, 0x00, 0x00, 0x00, 0x00, 0x00, 0x00, 0x0E]) := by decide

/-- by hand, R65. -/
theorem test_exec_encodeRfsStop :
    encOutcome (exec (.encodeRfsStop 1 0 0) (answering [.ok] [])) =
      some (.ok [0x01, 0x0D, 0x01, 0x00, 0x00, 0x00, 0x00, 0x00, 0x0F]) := by decide

/-- by hand, R65. -/
theorem test_exec_encodeRfsStatus :
    encOutcome (exec (.encodeRfsStatus 1 0 0) (answering [.ok] [])) =
      some (.ok [0x01, 0x0D, 0x02, 0x00, 0x00, 0x00, 0x00, 0x00, 0x10]) := by decide

/-! ### DECODE -/

/-- L1-2: the result and the phase. -/
theorem test_exec_decode :
    (nextState (exec .decode (answering [] [.bytes [0x01, 0x01, 0x64, 0x04, 0x00, 0x00, 0x03, 0xE8, 0x55]]))).map
      (fun t => (t.res, t.decPhase)) = some (some ⟨1, 1, 100, 4, 1000, false⟩, .validated) := by decide

/-- L2-D3, D4, D8a, D8c, D9 to D12, D16 to D18, D25. -/
theorem test_reply_vectors :
    replyOutcome .default [0x01, 0x01, 0x64, 0x04, 0x80, 0, 0, 0, 0xEA] =
      .ok ⟨1, 1, 100, 4, -2147483648, false⟩ ∧
    replyOutcome .default [0x01, 0x01, 0x64, 0x04, 0x7F, 0xFF, 0xFF, 0xFF, 0xE6] =
      .ok ⟨1, 1, 100, 4, 2147483647, false⟩ ∧
    replyOutcome .default [0x02, 0x01, 0x00, 0x06, 0, 0, 0, 0, 0x09] =
      .error (.protocolError 0 "unknown error") ∧
    replyOutcome .default [0x02, 0x01, 0x63, 0x06, 0, 0, 0, 0, 0x6C] =
      .error (.protocolError 99 "unknown error") ∧
    replyOutcome .default [0, 0, 0, 0, 0, 0, 0, 0, 0] = .error (.protocolError 0 "unknown error") ∧
    replyOutcome .default [0x01, 0x01, 0x64, 0x05, 0, 0, 0x03, 0xE8, 0x55] =
      .error (.checksumError 0x55 0x56) ∧
    replyOutcome .default [0x01, 0x01, 0x64, 0x04, 0, 0, 0x03, 0xE8, 0xD5] =
      .error (.checksumError 0xD5 0x55) ∧
    replyOutcome .default [0x81, 0x01, 0x64, 0x04, 0, 0, 0x03, 0xE8, 0x55] =
      .error (.checksumError 0x55 0xD5) ∧
    replyOutcome .default [0x64, 0x01, 0x01, 0x04, 0, 0, 0x03, 0xE8, 0x55] =
      .error (.protocolError 1 "Wrong checksum") ∧
    replyOutcome .default [0x01, 0x01, 0x64, 0xE8, 0, 0, 0x03, 0x04, 0x55] =
      .ok ⟨1, 1, 100, 232, 772, false⟩ ∧
    replyOutcome .default [0x01, 0x00, 0x64, 0x04, 0, 0x01, 0x03, 0xE8, 0x55] =
      .ok ⟨1, 0, 100, 4, 66536, false⟩ ∧
    replyOutcome .default [0x01, 0x64, 0x06, 0xFF, 0xFF, 0xFC, 0x18, 0x7F, 0x02] =
      .error (.checksumError 0x02 0xFC) := by decide

/-- L2-D19 to D23: lengths, and a failed read. -/
theorem test_io_errors :
    replyOutcome .default [0x02, 0x01, 0x64, 0x06, 0xFF, 0xFF, 0xFC] = .error (.ioError (.shortRead 7)) ∧
    replyOutcome .default [] = .error (.ioError (.shortRead 0)) ∧
    replyOutcome .default [0x02, 0x01, 0x64, 0x06, 0xFF, 0xFF, 0xFC, 0x18] =
      .error (.ioError (.shortRead 8)) ∧
    replyOutcome .default [0x02, 0x01, 0x64, 0x06, 0xFF, 0xFF, 0xFC, 0x18, 0x7F, 0x00] =
      .error (.ioError (.lengthMismatch 10)) ∧
    decOutcome (exec .decode (answering [] [.err someError])) = some (.error (.ioError (.readFailed someError))) := by
  decide

/-- L2-D2. -/
theorem test_exec_decodeStatus100 :
    decOutcome (exec (.decodeStatus100 2 1 6 (-1000) 0x7F) State.reset) =
      some (.ok ⟨2, 1, 100, 6, -1000, false⟩) := by decide

/-- L2-D6. -/
theorem test_exec_decodeStatus101 :
    decOutcome (exec (.decodeStatus101 2 1 6 0 0x6E) State.reset) =
      some (.ok ⟨2, 1, 101, 6, 0, true⟩) := by decide

/-- L2-D5a. -/
theorem test_exec_decodeStatus1 :
    decOutcome (exec (.decodeStatus1 2 1 6 0 0x0A) State.reset) =
      some (.error (.protocolError 1 "Wrong checksum")) := by decide

/-- L2-D5b. -/
theorem test_exec_decodeStatus2 :
    decOutcome (exec (.decodeStatus2 2 1 6 0 0x0B) State.reset) =
      some (.error (.protocolError 2 "Invalid command")) := by decide

/-- L2-D15, checksum before status. -/
theorem test_exec_decodeStatus3 :
    decOutcome (exec (.decodeStatus3 2 1 6 0 0x0D) State.reset) =
      some (.error (.checksumError 0x0D 0x0C)) := by decide

/-- L2-D5d. -/
theorem test_exec_decodeStatus4 :
    decOutcome (exec (.decodeStatus4 2 1 6 0 0x0D) State.reset) =
      some (.error (.protocolError 4 "Invalid value")) := by decide

/-- L2-D5e. -/
theorem test_exec_decodeStatus5 :
    decOutcome (exec (.decodeStatus5 2 1 6 0 0x0E) State.reset) =
      some (.error (.protocolError 5 "Configuration EEPROM locked")) := by decide

/-- L2-D5f. -/
theorem test_exec_decodeStatus6 :
    decOutcome (exec (.decodeStatus6 2 1 6 0 0x0F) State.reset) =
      some (.error (.protocolError 6 "Command not available")) := by decide

/-- L1-7. -/
theorem test_exec_decodeStatusUnknown :
    decOutcome (exec (.decodeStatusUnknown 2 1 200 6 0 0xD1) State.reset) =
      some (.error (.protocolError 200 "unknown error")) := by decide

/-! ### Steps and inputs -/

/-- A state with these inputs to come. -/
def withInputs (l : List Input) : State := { State.reset with inputs := l }

/-- R47, R203: the operation waits, and one issued meanwhile is refused. -/
theorem test_overlap :
    (nextState (step (withInputs [.issue (.select 1 []), .issue (.select 1 [])]))).map
      (fun t => (t.decPhase, refusal (step t))) = some (.await, some .overlap) := by decide

/-- R202, I16. -/
theorem test_no_channel :
    refusal (exec .decode { State.reset with attached := false }) = some .noChannel := by decide

/-- R201: a reset during a write leaves the drawn part on the wire and no outcome. -/
theorem test_reset_in_flight :
    (nextState (step { State.reset with
      encPhase := .writing, txf := some [1, 3, 0, 0, 0, 0, 0, 0, 4], encOut := some (.ok [])
      inputs := [.reset ⟨2, []⟩] })).map
      (fun t => (t.encPhase, t.txf, t.encOut, t.txStream)) = some (.idle, none, none, [1, 3]) := by decide

/-- R34: a register that holds no value. -/
theorem test_no_value : readRes State.reset = .error (.noValue .res) := by decide

/-- R79: a two-line program with a comment. -/
theorem test_assemble :
    assemble "ENCODE 1, GAP, 1, 0, 0 ; read\n\nDECODE" =
      some [.select 0 [1, 6, 1, 0, 0], .select 1 []] := by decide

/-! ### Witnesses: states and operands that meet the hypotheses of the statements -/

theorem ready_answering (w : List WriteAnswer) (r : List ReadAnswer) : Ready (answering w r) := by
  simp [Ready, answering, State.reset]

theorem legal_example : LegalCommand .default ⟨1, 4, 0, 0, 1000⟩ := by
  unfold LegalCommand
  decide

theorem illegal_example : ¬LegalCommand .default ⟨256, 4, 0, 0, 1000⟩ := by
  unfold LegalCommand
  decide

theorem witness_EncodeWritesItsFrameAndReturnsOk :
    ∃ s : State, Ready s ∧ LegalCommand s.config ⟨1, 4, 0, 0, 1000⟩ ∧ s.writeAnswers = .ok :: [] :=
  ⟨answering [.ok] [], ready_answering _ _, legal_example, rfl⟩

theorem witness_EncodeRaisesWriteFailedUnchanged :
    ∃ s : State, Ready s ∧ LegalCommand s.config ⟨1, 4, 0, 0, 1000⟩ ∧ s.writeAnswers = .err someError 4 :: [] :=
  ⟨answering [.err someError 4] [], ready_answering _ _, legal_example, rfl⟩

theorem witness_EncodeWaitsInWriting :
    ∃ s : State, Ready s ∧ LegalCommand s.config ⟨1, 4, 0, 0, 1000⟩ ∧ s.writeAnswers = [] :=
  ⟨answering [] [], ready_answering _ _, legal_example, rfl⟩

theorem witness_RequestFrameBytesAreFieldsValueAndChecksum :
    ∃ (cfg : Config) (c : Command), LegalCommand cfg c :=
  ⟨.default, ⟨1, 4, 0, 0, 1000⟩, legal_example⟩

theorem witness_RequestFrameIsSoundAndInjective :
    ∃ (cfg : Config) (c d : Command), LegalCommand cfg c ∧ LegalCommand cfg d ∧
      requestFrame c = requestFrame d :=
  ⟨.default, ⟨1, 4, 0, 0, 1000⟩, _, legal_example, legal_example, rfl⟩

theorem witness_FrameWordsAndFramesCorrespond :
    ∃ (w : Nat) (f : Bytes), w < 4722366482869645213696 ∧ f.length = 9 ∧ f[8]? = some 0xFF :=
  ⟨4722366482869645213695, [0, 1, 2, 3, 4, 5, 6, 7, 0xFF], by decide⟩

theorem witness_DecodeOfEncodeIsTheInstruction :
    ∃ i : Instr, i.wellFormed = true ∧ i = .encodeMvp 255 3 0 (-2147483648) :=
  ⟨_, by decide, rfl⟩

theorem witness_EncodeOfDecodeIsTheIssue :
    ∃ (f : Bytes) (i : Instr), decode (.request f) = .ok i ∧ wellChecksummed f = true ∧
      f[1]? = some 131 :=
  ⟨[0x01, 0x83, 0, 0, 0, 0, 0, 0, 0x84], .encodeApplReset 1 0 0 0, by decide⟩

theorem witness_ContractViolationMakesNoChannelAccess :
    ∃ (i : Instr) (c : Command) (s : State), commandOf i = some c ∧ Ready s ∧
      ¬LegalCommand s.config c :=
  ⟨.encode 256 4 0 0 1000, _, answering [.ok] [], rfl, ready_answering _ _, illegal_example⟩

theorem witness_OpcodeRowsWriteTheirFrame :
    ∃ s : State, Ready s ∧ s.writeAnswers = .ok :: [] ∧ s.config.strictInstruction = true :=
  ⟨answering [.ok] [], ready_answering _ _, rfl, rfl⟩

theorem witness_SubOptionRowsWriteTheirFrame :
    ∃ (s : State) (a m v : Int), Ready s ∧ s.writeAnswers = .ok :: [] ∧ a = 255 ∧ m = 0 ∧
      v = -2147483648 :=
  ⟨answering [.ok] [], 255, 0, _, ready_answering _ _, rfl, rfl, rfl, rfl⟩

theorem witness_EncodeRowsLeaveTheDecoderUnchanged :
    ∃ (i : Instr) (c : Command) (s t : State), commandOf i = some c ∧ exec i s = .next t ∧
      LegalCommand s.config c :=
  ⟨.encodeMvpAbs 1 0 1000, _, answering [.ok] [], _, rfl, rfl, legal_example⟩

theorem witness_EncodeRowsLeaveTheDecoderUnchanged_illegal :
    ∃ (i : Instr) (c : Command) (s t : State), commandOf i = some c ∧ exec i s = .next t ∧
      ¬LegalCommand s.config c :=
  ⟨.encode 256 4 0 0 1000, _, answering [.ok] [], _, rfl, rfl, illegal_example⟩

theorem witness_DecodeOfStatus100ReturnsResult :
    ∃ s : State, Ready s ∧ s.readAnswers = .bytes [0x01, 0x01, 0x64, 0x04, 0x00, 0x00, 0x03, 0xE8, 0x55] :: [] ∧
      checksum8 [0x01, 0x01, 0x64, 0x04, 0x00, 0x00, 0x03, 0xE8] = 0x55 :=
  ⟨answering [] [.bytes [0x01, 0x01, 0x64, 0x04, 0x00, 0x00, 0x03, 0xE8, 0x55]], ready_answering _ _, rfl, by decide⟩

theorem witness_DecodeOfStatus101ReturnsStoredResult :
    ∃ s : State, Ready s ∧ s.readAnswers = .bytes [0x02, 0x01, 0x65, 0x06, 0x00, 0x00, 0x00, 0x00, 0x6E] :: [] ∧
      checksum8 [0x02, 0x01, 0x65, 0x06, 0, 0, 0, 0] = 0x6E :=
  ⟨answering [] [.bytes [0x02, 0x01, 0x65, 0x06, 0x00, 0x00, 0x00, 0x00, 0x6E]], ready_answering _ _, rfl, by decide⟩

theorem witness_DecodeOfMappedStatusRaisesProtocolError :
    ∃ s : State, Ready s ∧ s.readAnswers = .bytes [0x02, 0x01, 0x06, 0x06, 0x00, 0x00, 0x00, 0x00, 0x0F] :: [] ∧
      checksum8 [0x02, 0x01, 0x06, 0x06, 0, 0, 0, 0] = 0x0F :=
  ⟨answering [] [.bytes [0x02, 0x01, 0x06, 0x06, 0x00, 0x00, 0x00, 0x00, 0x0F]], ready_answering _ _, rfl, by decide⟩

theorem witness_DecodeOfUnknownStatusKeepsTheCode :
    ∃ s : State, Ready s ∧ s.readAnswers = .bytes [0x02, 0x01, 0x07, 0x06, 0x00, 0x00, 0x00, 0x00, 0x10] :: [] ∧
      (7 : Byte).toNat ∉ [100, 101, 1, 2, 3, 4, 5, 6] ∧ checksum8 [0x02, 0x01, 0x07, 0x06, 0, 0, 0, 0] = 0x10 :=
  ⟨answering [] [.bytes [0x02, 0x01, 0x07, 0x06, 0x00, 0x00, 0x00, 0x00, 0x10]], ready_answering _ _, rfl, by decide, by decide⟩

theorem witness_DecodeChecksTheChecksumBeforeTheStatus :
    ∃ s : State, Ready s ∧ s.readAnswers = .bytes [0x01, 0x01, 0x64, 0x05, 0x00, 0x00, 0x03, 0xE8, 0x55] :: [] ∧
      checksum8 [0x01, 0x01, 0x64, 0x05, 0x00, 0x00, 0x03, 0xE8] ≠ 0x55 :=
  ⟨answering [] [.bytes [0x01, 0x01, 0x64, 0x05, 0x00, 0x00, 0x03, 0xE8, 0x55]], ready_answering _ _, rfl, by decide⟩

theorem witness_DecodeOfWrongLengthOrFailedReadRaisesIOError :
    ∃ s₁ s₂ s₃ : State, Ready s₁ ∧ Ready s₂ ∧ Ready s₃ ∧ s₁.readAnswers = .err someError :: [] ∧
      s₂.readAnswers = .bytes [0, 0, 0, 0, 0, 0, 0, 0] :: [] ∧
      s₃.readAnswers = .bytes [0, 0, 0, 0, 0, 0, 0, 0, 0, 0] :: [] :=
  ⟨answering [] [.err someError], answering [] [.bytes [0, 0, 0, 0, 0, 0, 0, 0]],
    answering [] [.bytes [0, 0, 0, 0, 0, 0, 0, 0, 0, 0]], ready_answering _ _, ready_answering _ _,
    ready_answering _ _, rfl, rfl, rfl⟩

theorem witness_DecodeWaitsInAwait :
    ∃ s : State, Ready s ∧ s.readAnswers = [] :=
  ⟨answering [] [], ready_answering _ _, rfl⟩

theorem witness_StatusRowsWithBadChecksumRaiseChecksumError :
    ∃ (i : Instr) (r : Reply) (s : State), replyOf i = some r ∧ Ready s ∧
      r.checksum ≠ checksum8 ((replyFrame r).take 8) :=
  ⟨.decodeStatus3 2 1 6 0 0x0D, _, answering [] [], rfl, ready_answering _ _, by decide⟩

theorem witness_DecodeRowsLeaveTheEncoderUnchanged :
    ∃ s t : State, commandOf .decode = none ∧ exec .decode s = .next t ∧ t.decPhase = .rejected :=
  ⟨answering [] [.bytes []], _, rfl, rfl, rfl⟩

theorem witness_DecodeRowsLeaveTheEncoderUnchanged_row :
    ∃ (i : Instr) (s t : State), commandOf i = none ∧ i ≠ .decode ∧ exec i s = .next t :=
  ⟨.decodeStatus1 2 1 6 0 0x0A, answering [] [], _, rfl, by decide, rfl⟩

theorem witness_SingleBitFlipIsDetected :
    ∃ (f : Bytes) (s : State), SoundFrame f ∧ Ready s ∧
      s.readAnswers = .bytes (f.modify 8 (fun b => b ^^^ (1#8 <<< 7))) :: [] :=
  ⟨[0x01, 0x01, 0x64, 0x04, 0x00, 0x00, 0x03, 0xE8, 0x55],
    answering [] [.bytes [0x01, 0x01, 0x64, 0x04, 0x00, 0x00, 0x03, 0xE8, 0xD5]],
    ⟨rfl, by decide⟩, ready_answering _ _, by decide⟩

theorem witness_ReorderingOfPayloadIsNotDetected :
    ∃ p q : Bytes, p.length = 8 ∧ p.Perm q ∧ p ≠ q :=
  ⟨[1, 2, 0, 0, 0, 0, 0, 0], [2, 1, 0, 0, 0, 0, 0, 0], rfl, List.Perm.swap _ _ _, by decide⟩

theorem witness_DeliveredRequestFrameDecodesToItsFields :
    ∃ (s : State) (v : Int), Ready s ∧ v = -2147483648 ∧
      s.readAnswers = .bytes (requestFrame ⟨255, 0, 101, 255, v⟩) :: [] :=
  ⟨answering [] [.bytes (requestFrame ⟨255, 0, 101, 255, -2147483648⟩)], _, ready_answering _ _, rfl, rfl⟩

theorem witness_EveryRowCompletesWhenReady :
    ∃ s : State, Ready s := ⟨answering [] [], ready_answering _ _⟩

theorem witness_OverlapIsRefusedByName :
    ∃ s₁ s₂ : State, s₁.encPhase = .writing ∧ s₂.decPhase = .await :=
  ⟨{ State.reset with encPhase := .writing }, { State.reset with decPhase := .await }, rfl, rfl⟩

theorem witness_NoChannelIsRefusedByName :
    ∃ s : State, s.encPhase ≠ .writing ∧ s.decPhase ≠ .await ∧ s.attached = false :=
  ⟨{ State.reset with attached := false }, by decide, by decide, rfl⟩

theorem witness_OutcomeDependsOnlyOnOperandsConfigAndAnswers :
    ∃ s₁ s₂ : State, s₁ ≠ s₂ ∧ Ready s₁ ∧ Ready s₂ ∧ s₁.config = s₂.config ∧
      s₁.writeAnswers = s₂.writeAnswers ∧ s₁.readAnswers = s₂.readAnswers :=
  ⟨answering [.ok] [], { answering [.ok] [] with decPhase := .rejected }, by decide, ready_answering _ _,
    by simp [Ready, answering, State.reset], rfl, rfl, rfl⟩

theorem witness_StepRunsTheDecodedOperation :
    ∃ (s : State) (p q : Issue) (i : Instr), s.inputs = .issue p :: [] ∧ decode p = .ok i ∧
      decode q = .error .operandCount ∧ decodeTableWord 8 1 = some i :=
  ⟨withInputs [.issue (.select 1 [])], _, .select 0 [], .decode, rfl, rfl, rfl, rfl⟩

theorem witness_SilentChannelHangsWithoutFault :
    ∃ s : State, s.inputs = [] ∧ s.decPhase = .await := ⟨{ State.reset with decPhase := .await }, rfl, rfl⟩

theorem witness_NoStepWritesTheConfiguration :
    ∃ s t : State, step s = .next t ∧ s ≠ t :=
  ⟨withInputs [.issue (.select 1 [])], _, rfl, by decide⟩

theorem witness_ResetAbandonsAnOperationInFlight :
    ∃ (s r : State) (f : Bytes), s.encPhase = .writing ∧ s.txf = some f ∧ s.inputs = .reset ⟨9, []⟩ :: [] ∧
      r.decPhase = .await ∧ r.inputs = .reset ⟨0, [1, 2]⟩ :: [] :=
  ⟨{ withInputs [.reset ⟨9, []⟩] with encPhase := .writing, txf := some [1, 3, 0, 0, 0, 0, 0, 0, 4] },
    { withInputs [.reset ⟨0, [1, 2]⟩] with decPhase := .await }, _, rfl, rfl, rfl, rfl, rfl⟩

theorem witness_AttachingAChannelMakesTheCodecReady :
    ∃ s : State, s.inputs = .attachChannel :: [] ∧ s.attached = false ∧ s.encPhase ≠ .writing ∧
      s.decPhase ≠ .await :=
  ⟨{ withInputs [.attachChannel] with attached := false }, rfl, rfl, by decide, by decide⟩

theorem witness_ReadingNoValueFaults :
    ∃ (s t : State) (c : Command) (f b : Bytes) (r : Result) (o : EncOutcome) (p : DecOutcome),
      s.cmd = none ∧ s.txf = none ∧ s.rxf = none ∧ s.rxlen = none ∧ s.res = none ∧ s.encOut = none ∧
      s.decOut = none ∧ t.cmd = some c ∧ t.txf = some f ∧ f.length = 9 ∧ t.rxf = some b ∧ t.rxlen = some 10 ∧
      b.length = 10 ∧ t.res = some r ∧ t.encOut = some o ∧ t.decOut = some p :=
  ⟨State.reset, { State.reset with
    cmd := some ⟨1, 3, 0, 0, 0⟩, txf := some [1, 3, 0, 0, 0, 0, 0, 0, 4]
    rxf := some [2, 1, 100, 6, 0, 0, 0, 0, 109, 0], rxlen := some 10
    res := some ⟨1, 1, 100, 4, 1000, false⟩, encOut := some (.ok []), decOut := some (.error (.checksumError 0 1)) },
    _, _, _, _, _, _, rfl, rfl, rfl, rfl, rfl, rfl, rfl, rfl, rfl, rfl, rfl, rfl, rfl, rfl, rfl, rfl⟩

/-- R40: after a read of 10 bytes (95_test_vectors.md L2-D22) position 8 holds a byte, and 9 is no position. -/
theorem test_read_rxf_positions :
    (nextState (exec .decode (answering [] [.bytes [0x02, 0x01, 0x64, 0x06, 0xFF, 0xFF, 0xFC, 0x18, 0x7F, 0x00]]))).map
      (fun t => (decide (readRxf t 8 = .ok 0x7F), decide (readRxf t 9 = .error (.noPosition 9)))) =
      some (true, true) := by decide

/-- R34: after a read of 7 bytes (95_test_vectors.md L2-D19) position 7 holds no value. -/
theorem test_read_rxf_short :
    (nextState (exec .decode (answering [] [.bytes [0x02, 0x01, 0x64, 0x06, 0xFF, 0xFF, 0xFC]]))).map
      (fun t => (decide (readRxf t 6 = .ok 0xFC), decide (readRxf t 7 = .error (.noValue .rxf)))) =
      some (true, true) := by decide

theorem witness_EveryStepKeepsTheInvariant :
    ∃ s t : State, s.Inv ∧ step s = .next t ∧ t.decPhase = .await :=
  ⟨withInputs [.issue (.select 1 [])], _, by constructor <;> simp [withInputs, State.reset], rfl, rfl⟩

theorem witness_ValuePacksToBigEndianTwosComplement :
    ∃ v w : Int, v = -2147483648 ∧ w = 2147483647 ∧ bePack32 v = [0x80, 0, 0, 0] ∧
      bePack32 w = [0x7F, 0xFF, 0xFF, 0xFF] := ⟨_, _, rfl, rfl, by decide⟩

theorem witness_ValuePackingIsABijection :
    ∃ (v : Int) (b4 b5 b6 b7 : Byte), -2147483648 ≤ v ∧ v ≤ 2147483647 ∧ bePack32 v = [b4, b5, b6, b7] ∧
      beNat32 0x7F 0xFF 0xFF 0xFF = 2147483647 ∧ beNat32 0x80 0 0 0 = 2147483648 :=
  ⟨2147483647, 0x7F, 0xFF, 0xFF, 0xFF, by decide⟩

theorem witness_ChecksumIsUnsignedByteSumMod256 :
    ∃ f g : Bytes, f.length = 9 ∧ g.length = 9 ∧ wellChecksummed f = true ∧ wellChecksummed g = false :=
  ⟨[0, 0, 0, 0, 0, 0, 0, 0, 0], [0, 0, 0, 0, 0, 0, 0, 0, 1], by decide⟩

theorem witness_ParsingTakesTheFieldsInOrder :
    ∃ f g : Bytes, f.length = 9 ∧ g.length = 9 ∧ parseReply f = some ⟨2, 1, 100, 6, -1000, 0x7F⟩ ∧
      parseReply g = some ⟨1, 1, 100, 4, 2147483647, 0xE6⟩ :=
  ⟨[0x02, 0x01, 0x64, 0x06, 0xFF, 0xFF, 0xFC, 0x18, 0x7F],
    [0x01, 0x01, 0x64, 0x04, 0x7F, 0xFF, 0xFF, 0xFF, 0xE6], by decide⟩

theorem witness_StatusClassesAndMessagesAreAsListed :
    ∃ r u : Reply, r.status.toNat = 6 ∧ u.status.toNat ∉ [1, 2, 3, 4, 5, 6, 100, 101] :=
  ⟨⟨0, 0, 6, 0, 0, 0⟩, ⟨0, 0, 7, 0, 0, 0⟩, by decide⟩

theorem witness_DecodeRejectsOnlyWrongCounts :
    ∃ f g : Bytes, f.length = 9 ∧ g.length ≠ 9 := ⟨[0, 0, 0, 0, 0, 0, 0, 0, 0], [], by decide⟩

theorem witness_TxfIsAFunctionOfTheOperands :
    ∃ (s₁ s₂ : State) (c : Command), s₁.config ≠ s₂.config ∧ Ready s₁ ∧ Ready s₂ ∧
      LegalCommand s₁.config c ∧ LegalCommand s₂.config c :=
  ⟨answering [.ok] [], lenient (answering [] []), ⟨1, 4, 0, 0, 1000⟩, by decide, ready_answering _ _,
    by simp [Ready, lenient, answering, State.reset], legal_example, by unfold LegalCommand; decide⟩

theorem witness_InstructionValueChangesOnlyTheFrame :
    ∃ s : State, Ready s ∧ LegalCommand s.config ⟨1, 4, 0, 0, 1000⟩ ∧ LegalCommand s.config ⟨1, 131, 0, 0, 1000⟩ :=
  ⟨answering [.ok] [], ready_answering _ _, legal_example, by unfold LegalCommand; decide⟩

theorem witness_EncodeReportsFirstFailingCheck :
    ∃ s : State, Ready s ∧ s.config.strictInstruction = true ∧ ¬(0 ≤ (256 : Int) ∧ (256 : Int) ≤ 255) ∧
      (16 : Int) ∉ [1, 2, 3, 4, 5, 6, 7, 8, 9, 10, 11, 12, 13, 14, 15, 30, 31, 32, 128, 129, 131] ∧
      ¬(-2147483648 ≤ (2147483648 : Int) ∧ (2147483648 : Int) ≤ 2147483647) :=
  ⟨answering [.ok] [], ready_answering _ _, by decide⟩

theorem witness_SuccessRowsReturnTheirFields :
    ∃ (s : State) (v : Int), Ready s ∧ -2147483648 ≤ v ∧ v ≤ 2147483647 :=
  ⟨answering [] [], -2147483648, ready_answering _ _, by decide, by decide⟩

theorem witness_MappedFailureRowsRaiseTheirMessage :
    ∃ s : State, Ready s := ⟨answering [] [], ready_answering _ _⟩

theorem witness_UnknownStatusRowKeepsTheCode :
    ∃ (s : State) (st : Byte), Ready s ∧ st.toNat ∉ [100, 101, 1, 2, 3, 4, 5, 6] :=
  ⟨answering [] [], 102, ready_answering _ _, by decide⟩

theorem witness_LateWriteAnswerEndsTheOperationAlike :
    ∃ (i : Instr) (c : Command) (s : State), commandOf i = some c ∧ LegalCommand s.config c ∧ Ready s ∧
      s.writeAnswers = [] :=
  ⟨.encode 1 4 0 0 1000, _, answering [] [], rfl, legal_example, ready_answering _ _, rfl⟩

theorem witness_LateReadAnswerEndsTheOperationAlike :
    ∃ s : State, Ready s ∧ s.readAnswers = [] := ⟨answering [] [], ready_answering _ _, rfl⟩

theorem witness_OneAccessPerOperationAndNoRetry :
    ∃ s t : State, Ready s ∧ LegalCommand s.config ⟨1, 4, 0, 0, 1000⟩ ∧ ¬LegalCommand s.config ⟨256, 4, 0, 0, 0⟩ ∧
      s.Inv ∧ s.inputs = .readAnswer (.bytes []) :: [] ∧ step s = .next t ∧ t.calls = s.calls :=
  ⟨withInputs [.readAnswer (.bytes [])], _, by simp [Ready, withInputs, State.reset], legal_example,
    by unfold LegalCommand; decide, by constructor <;> simp [withInputs, State.reset], rfl, rfl, rfl⟩

theorem witness_ResetClearsTheCodecOnly :
    ∃ s : State, s.inputs = .reset ⟨3, [7]⟩ :: [] ∧ s.encPhase ≠ .writing ∧ s.decPhase ≠ .await :=
  ⟨withInputs [.reset ⟨3, [7]⟩], rfl, by decide, by decide⟩

theorem witness_ResetBetweenOperationsIsNotObservable :
    ∃ s : State, Ready s ∧ s.inputs = .reset ⟨3, [7]⟩ :: [] :=
  ⟨withInputs [.reset ⟨3, [7]⟩], by simp [Ready, withInputs, State.reset], rfl⟩

theorem witness_NoStepFaultsUnderTheInvariant :
    ∃ s : State, s.Inv ∧ s.encPhase = .writing ∧ s.inputs = .writeAnswer .ok :: [] :=
  ⟨{ withInputs [.writeAnswer .ok] with
      cmd := some ⟨1, 4, 0, 0, 1000⟩, txf := some (requestFrame ⟨1, 4, 0, 0, 1000⟩), encPhase := .writing },
    by
      constructor <;> simp [withInputs, State.reset]
      exact ⟨⟨rfl, by decide⟩, legal_example⟩, rfl, rfl⟩

end Sys2Proof.Tests
end

section
/-! PROOF. Noninterference (spec/10_state.md R20): the unit that runs ends with buffers, phase and outcome
that nothing left by an earlier operation reaches. Each shared operation carries an agreement of one unit in two
states to its next states; `ENCODE` and `DECODE` begin by making that agreement. -/

namespace Sys2Proof.Machine

variable {s₁ s₂ : State}

/-- The encoder stands alike in two states. `ENC_OUT` counts only once the operation has ended: while the write
waits it still holds an earlier outcome (R27). -/
structure EncoderAgrees (s₁ s₂ : State) : Prop where
  encPhase : s₁.encPhase = s₂.encPhase
  cmd : s₁.cmd = s₂.cmd
  txf : s₁.txf = s₂.txf
  encOut : s₁.encPhase = .idle → s₁.encOut = s₂.encOut

/-- The decoder stands alike in two states. `DEC_OUT` counts only once the operation has ended (R27). -/
structure DecoderAgrees (s₁ s₂ : State) : Prop where
  decPhase : s₁.decPhase = s₂.decPhase
  rxf : s₁.rxf = s₂.rxf
  rxlen : s₁.rxlen = s₂.rxlen
  res : s₁.res = s₂.res
  decOut : s₁.decPhase ≠ .await → s₁.decOut = s₂.decOut

/-- Two runs both reach a next state, and `R` relates the two. -/
def BothNext (R : State → State → Prop) (o₁ o₂ : StepResult) : Prop :=
  ∃ t₁ t₂, o₁ = .next t₁ ∧ o₂ = .next t₂ ∧ R t₁ t₂

theorem bothNext_of_rel {R : State → State → Prop} (h : R s₁ s₂) : BothNext R (.next s₁) (.next s₂) :=
  ⟨s₁, s₂, rfl, rfl, h⟩

/-! ### Waiting, with and without an answer at hand -/

theorem awaitWrite_of_nil {s : State} (h : s.writeAnswers = []) : awaitWrite s = .next s := by
  simp [awaitWrite, h]

theorem awaitWrite_of_cons {s : State} {a : WriteAnswer} {rest : List WriteAnswer}
    (h : s.writeAnswers = a :: rest) : awaitWrite s = finishWrite a { s with writeAnswers := rest } := by
  simp [awaitWrite, h]

theorem awaitRead_of_nil {s : State} (h : s.readAnswers = []) : awaitRead s = .next s := by
  simp [awaitRead, h]

theorem awaitRead_of_cons {s : State} {a : ReadAnswer} {rest : List ReadAnswer}
    (h : s.readAnswers = a :: rest) : awaitRead s = .next (finishRead a { s with readAnswers := rest }) := by
  simp [awaitRead, h]

/-! ### ENCODE -/

/-- Where `TXF` holds the same frame, one answer ends both writes alike. -/
theorem finishWrite_encoderAgrees {f : Bytes} (a : WriteAnswer) (hf : s₁.txf = some f)
    (h : EncoderAgrees s₁ s₂) : BothNext EncoderAgrees (finishWrite a s₁) (finishWrite a s₂) := by
  rw [finishWrite_of_txf hf, finishWrite_of_txf (h.txf ▸ hf)]
  apply bothNext_of_rel
  cases a with
  | ok => exact ⟨rfl, h.cmd, h.txf, fun _ => rfl⟩
  | err e n => exact ⟨rfl, h.cmd, h.txf, fun _ => rfl⟩

theorem awaitWrite_encoderAgrees {f : Bytes} (hf : s₁.txf = some f)
    (hw : s₁.writeAnswers = s₂.writeAnswers) (h : EncoderAgrees s₁ s₂) :
    BothNext EncoderAgrees (awaitWrite s₁) (awaitWrite s₂) := by
  cases hw₁ : s₁.writeAnswers with
  | nil =>
    rw [awaitWrite_of_nil hw₁, awaitWrite_of_nil (hw ▸ hw₁)]
    exact bothNext_of_rel h
  | cons a rest =>
    rw [awaitWrite_of_cons hw₁, awaitWrite_of_cons (hw ▸ hw₁)]
    exact finishWrite_encoderAgrees a hf ⟨h.encPhase, h.cmd, h.txf, h.encOut⟩

/-- The issue writes `CMD` and clears `TXF`, and the write begins with `TXF` the frame of the operands alone, so
the encoder's earlier registers are gone before anything is read from them. -/
theorem encodeOp_encoderAgrees (c : Command) (h₁ : Ready s₁) (h₂ : Ready s₂) (hcfg : s₁.config = s₂.config)
    (hw : s₁.writeAnswers = s₂.writeAnswers) :
    BothNext EncoderAgrees (encodeOp c s₁) (encodeOp c s₂) := by
  rw [encodeOp, encodeOp, whenReady_of_ready h₁, whenReady_of_ready h₂, ← hcfg]
  cases checkCommand s₁.config c with
  | some e => exact bothNext_of_rel ⟨rfl, rfl, rfl, fun _ => rfl⟩
  | none => exact awaitWrite_encoderAgrees (startWrite_txf _ _) hw ⟨rfl, rfl, rfl, nofun⟩

/-! ### DECODE -/

/-- One answer ends both reads alike: what the bytes mean depends on them and the configuration only. -/
theorem finishRead_decoderAgrees (a : ReadAnswer) (hcfg : s₁.config = s₂.config) (h : DecoderAgrees s₁ s₂) :
    DecoderAgrees (finishRead a s₁) (finishRead a s₂) := by
  cases a with
  | err e => exact ⟨rfl, h.rxf, h.rxlen, h.res, fun _ => rfl⟩
  | bytes b =>
    rw [finishRead, finishRead, ← hcfg]
    cases replyOutcome s₁.config b with
    | ok r => exact ⟨rfl, rfl, rfl, rfl, fun _ => rfl⟩
    | error e => exact ⟨rfl, rfl, rfl, h.res, fun _ => rfl⟩

theorem awaitRead_decoderAgrees (hcfg : s₁.config = s₂.config) (hr : s₁.readAnswers = s₂.readAnswers)
    (h : DecoderAgrees s₁ s₂) : BothNext DecoderAgrees (awaitRead s₁) (awaitRead s₂) := by
  cases hr₁ : s₁.readAnswers with
  | nil =>
    rw [awaitRead_of_nil hr₁, awaitRead_of_nil (hr ▸ hr₁)]
    exact bothNext_of_rel h
  | cons a rest =>
    rw [awaitRead_of_cons hr₁, awaitRead_of_cons (hr ▸ hr₁)]
    exact bothNext_of_rel
      (finishRead_decoderAgrees a hcfg ⟨h.decPhase, h.rxf, h.rxlen, h.res, h.decOut⟩)

/-- A read begins with every buffer of the decoder cleared (R34), whatever stood in it. -/
theorem startRead_decoderAgrees (s₁ s₂ : State) : DecoderAgrees (startRead s₁) (startRead s₂) :=
  ⟨rfl, rfl, rfl, rfl, fun h => absurd rfl h⟩

theorem decodeOp_decoderAgrees (d : Option ReadAnswer) (h₁ : Ready s₁) (h₂ : Ready s₂)
    (hcfg : s₁.config = s₂.config) (hr : s₁.readAnswers = s₂.readAnswers) :
    BothNext DecoderAgrees (decodeOp d s₁) (decodeOp d s₂) := by
  rw [decodeOp, decodeOp, whenReady_of_ready h₁, whenReady_of_ready h₂]
  cases d with
  | some a => exact bothNext_of_rel (finishRead_decoderAgrees a hcfg (startRead_decoderAgrees s₁ s₂))
  | none => exact awaitRead_decoderAgrees hcfg hr (startRead_decoderAgrees s₁ s₂)

end Sys2Proof.Machine

open Sys2Proof Sys2Proof.Machine

/-- Settles O43: every row is `encodeOp` or `decodeOp`, and each of the two brings the unit it runs to agreement
from any two ready states. -/
theorem outcomeDependsOnlyOnOperandsConfigAndAnswers :
    Obligations.OutcomeDependsOnlyOnOperandsConfigAndAnswers := by
  intro i s₁ s₂ h₁ h₂ hcfg hw hr
  rw [exec_eq_shared, exec_eq_shared]
  cases hc : commandOf i with
  | some c =>
    obtain ⟨t₁, t₂, e₁, e₂, h⟩ := encodeOp_encoderAgrees c h₁ h₂ hcfg hw
    exact ⟨t₁, t₂, e₁, e₂, fun _ => ⟨h.encPhase, h.cmd, h.txf, h.encOut⟩, nofun⟩
  | none =>
    obtain ⟨t₁, t₂, e₁, e₂, h⟩ := decodeOp_decoderAgrees _ h₁ h₂ hcfg hr
    exact ⟨t₁, t₂, e₁, e₂, fun hn => absurd rfl hn, fun _ => ⟨h.decPhase, h.rxf, h.rxlen, h.res, h.decOut⟩⟩

end

section
/-! PROOF. Channel accesses (spec/10_state.md R45, R46): the start of a write or of a read is the only place that
makes an access; what ends one, and every input that is no issue, makes none. At most
one frame of 9 bytes reaches the wire in a step. -/

namespace Sys2Proof.Machine

variable {s t : State} {f : Bytes}

/-! ### The operand checks are exactly `LegalCommand` -/

/-- One guard of `checkCommand`. -/
theorem guard_eq_none_iff {b : Bool} {e : OpError} {r : Option OpError} :
    (if !b then some e else r) = none ↔ b = true ∧ r = none := by
  cases b <;> simp

theorem enumerated_iff (cfg : Config) (i : Int) :
    enumerated cfg i = true ↔ (cfg.strictInstruction = true → i ∈
      [1, 2, 3, 4, 5, 6, 7, 8, 9, 10, 11, 12, 13, 14, 15, 30, 31, 32, 128, 129, 131]) := by
  have hl : legalInstr.map Int.ofNat =
      [1, 2, 3, 4, 5, 6, 7, 8, 9, 10, 11, 12, 13, 14, 15, 30, 31, 32, 128, 129, 131] := rfl
  rw [enumerated, hl, Bool.or_eq_true, List.contains_iff_mem]
  cases cfg.strictInstruction <;> simp

theorem checkCommand_eq_none_iff (cfg : Config) (c : Command) :
    checkCommand cfg c = none ↔ LegalCommand cfg c := by
  simp only [checkCommand, guard_eq_none_iff, inU8_iff, inI32_iff, enumerated_iff, LegalCommand]
  tauto

/-! ### What reaches the wire -/

/-- The wire of `s` has gained at most the 9 bytes of one frame in `t`. -/
def WireGrows (s t : State) : Prop := ∃ b, t.txStream = s.txStream ++ b ∧ b.length ≤ 9

theorem wireGrows_of_eq (h : t.txStream = s.txStream) : WireGrows s t := ⟨[], by simp [h], by simp⟩

theorem wireGrows_of_take {n : Nat} (hf : f.length = 9) (h : t.txStream = s.txStream ++ f.take n) :
    WireGrows s t := ⟨f.take n, h, hf ▸ List.length_take_le' n f⟩

/-! ### Writes -/

/-- A write of `f` goes on from `s` to `t`, waiting or ended: `f` stays in `TXF`, no access is made, and a
prefix of `f` reaches the wire. -/
structure WriteGoesOn (f : Bytes) (s t : State) : Prop where
  txf : t.txf = some f
  calls : t.calls = s.calls
  wire : ∃ n, t.txStream = s.txStream ++ f.take n

theorem finishWrite_goesOn (hf : s.txf = some f) (a : WriteAnswer) :
    ∃ t, finishWrite a s = .next t ∧ WriteGoesOn f s t := by
  rw [finishWrite_of_txf hf]
  cases a with
  | ok => exact ⟨_, rfl, hf, rfl, f.length, by simp⟩
  | err e n => exact ⟨_, rfl, hf, rfl, n, rfl⟩

theorem awaitWrite_goesOn (hf : s.txf = some f) : ∃ t, awaitWrite s = .next t ∧ WriteGoesOn f s t := by
  cases hw : s.writeAnswers with
  | nil => exact ⟨s, awaitWrite_of_nil hw, hf, rfl, 0, by simp⟩
  | cons a rest =>
    obtain ⟨t, ht, h⟩ := finishWrite_goesOn (s := { s with writeAnswers := rest }) hf a
    exact ⟨t, awaitWrite_of_cons hw ▸ ht, h.txf, h.calls, h.wire⟩

/-- R45: with operands that pass, the one access is the write of the frame, and whatever answers it adds none. -/
theorem encodeOp_of_legal {c : Command} (hs : Ready s) (hc : LegalCommand s.config c) :
    ∃ t, encodeOp c s = .next t ∧ WireGrows s t ∧ t.txf = some (requestFrame c) ∧
      t.calls = s.calls ++ [.write (requestFrame c)] := by
  obtain ⟨t, ht, h⟩ := awaitWrite_goesOn (startWrite_txf (issueCommand c s) (requestFrame c))
  obtain ⟨n, hn⟩ := h.wire
  refine ⟨t, ?_, wireGrows_of_take (requestFrame_length c) hn, h.txf, h.calls⟩
  rw [encodeOp, whenReady_of_ready hs, (checkCommand_eq_none_iff s.config c).2 hc]
  exact ht

theorem encodeOp_of_not_legal {c : Command} (hs : Ready s) (hc : ¬LegalCommand s.config c) :
    ∃ t, encodeOp c s = .next t ∧ WireGrows s t ∧ t.calls = s.calls := by
  rw [encodeOp, whenReady_of_ready hs]
  cases he : checkCommand s.config c with
  | none => exact absurd ((checkCommand_eq_none_iff s.config c).1 he) hc
  | some e => exact ⟨_, rfl, wireGrows_of_eq rfl, rfl⟩

/-! ### Reads -/

theorem finishRead_calls (a : ReadAnswer) (s : State) : (finishRead a s).calls = s.calls := by
  obtain ⟨_, -, h⟩ | ⟨_, _, -, -, h⟩ | ⟨_, _, -, -, h⟩ := finishRead_cases (s := s) a <;> rw [h] <;> rfl

theorem finishRead_txStream (a : ReadAnswer) (s : State) : (finishRead a s).txStream = s.txStream := by
  obtain ⟨_, -, h⟩ | ⟨_, _, -, -, h⟩ | ⟨_, _, -, -, h⟩ := finishRead_cases (s := s) a <;> rw [h] <;> rfl

/-- R46: the one access is `ChanRead(9)`, and whatever answers it adds none. -/
theorem decodeOp_of_ready (d : Option ReadAnswer) (hs : Ready s) :
    ∃ t, decodeOp d s = .next t ∧ WireGrows s t ∧ t.calls = s.calls ++ [.read 9] := by
  rw [decodeOp, whenReady_of_ready hs]
  cases d with
  | some a =>
    exact ⟨_, rfl, wireGrows_of_eq (finishRead_txStream a (startRead s)), finishRead_calls a (startRead s)⟩
  | none =>
    obtain ⟨-, h⟩ | ⟨a, rest, -, h⟩ := awaitRead_cases (s := startRead s)
    · exact ⟨_, h, wireGrows_of_eq rfl, rfl⟩
    · exact ⟨_, h, wireGrows_of_eq (finishRead_txStream a _), finishRead_calls a _⟩

/-! ### Steps -/

theorem ready_of_exec_next {i : Instr} (h : exec i s = .next t) : Ready s := by
  rw [exec_eq_shared] at h
  cases hc : commandOf i with
  | some c => rw [hc] at h; exact (encodeOp_next h).1
  | none => rw [hc] at h; exact (decodeOp_next h).1

/-- Every row in a ready state: its accesses, and what it adds to the wire. -/
theorem exec_of_ready (i : Instr) (hs : Ready s) : ∃ t, exec i s = .next t ∧ WireGrows s t ∧
    (∀ c, commandOf i = some c → LegalCommand s.config c →
      ∃ f, t.txf = some f ∧ f.length = 9 ∧ t.calls = s.calls ++ [.write f]) ∧
    (∀ c, commandOf i = some c → ¬LegalCommand s.config c → t.calls = s.calls) ∧
    (commandOf i = none → t.calls = s.calls ++ [.read 9]) := by
  rw [exec_eq_shared]
  cases commandOf i with
  | none =>
    obtain ⟨t, ht, hw, hcalls⟩ := decodeOp_of_ready _ hs
    exact ⟨t, ht, hw, nofun, nofun, fun _ => hcalls⟩
  | some c =>
    by_cases hc : LegalCommand s.config c
    · obtain ⟨t, ht, hw, hf, hcalls⟩ := encodeOp_of_legal hs hc
      refine ⟨t, ht, hw, fun _ _ _ => ⟨_, hf, requestFrame_length c, hcalls⟩, ?_, nofun⟩
      rintro _ ⟨⟩ hn
      exact absurd hc hn
    · obtain ⟨t, ht, hw, hcalls⟩ := encodeOp_of_not_legal hs hc
      refine ⟨t, ht, hw, ?_, fun _ _ _ => hcalls, nofun⟩
      rintro _ ⟨⟩ hl
      exact absurd hl hc

theorem exec_wireGrows {i : Instr} (h : exec i s = .next t) : WireGrows s t := by
  obtain ⟨t', ht', hw, -⟩ := exec_of_ready i (ready_of_exec_next h)
  cases h.symm.trans ht'
  exact hw

theorem acceptWriteAnswer_next {a : WriteAnswer} (hlen : ∀ f, s.txf = some f → f.length = 9)
    (h : acceptWriteAnswer a s = .next t) : WireGrows s t ∧ t.calls = s.calls := by
  unfold acceptWriteAnswer at h
  split at h
  · obtain ⟨f, hf, -⟩ := finishWrite_next h
    obtain ⟨t', ht', hg⟩ := finishWrite_goesOn hf a
    cases h.symm.trans ht'
    obtain ⟨n, hn⟩ := hg.wire
    exact ⟨wireGrows_of_take (hlen f hf) hn, hg.calls⟩
  · cases h
    exact ⟨wireGrows_of_eq rfl, rfl⟩

theorem acceptReadAnswer_next {a : ReadAnswer} (h : acceptReadAnswer a s = .next t) :
    WireGrows s t ∧ t.calls = s.calls := by
  unfold acceptReadAnswer at h
  split at h <;> cases h
  · exact ⟨wireGrows_of_eq (finishRead_txStream a s), finishRead_calls a s⟩
  all_goals exact ⟨wireGrows_of_eq rfl, rfl⟩

/-- R201: an abandoned write had put at most its frame on the wire. -/
theorem resetCodec_wireGrows (d : ResetDraw) (hlen : ∀ f, s.txf = some f → f.length = 9) :
    WireGrows s (resetCodec d s) := by
  refine ⟨abandonedWrite d s, resetCodec_txStream s d, ?_⟩
  unfold abandonedWrite
  split
  · next f _ hf => exact hlen f hf ▸ List.length_take_le' d.sent f
  all_goals simp

/-- A step that takes no issue makes no access, and no step puts more than one frame on the wire. -/
theorem step_next_access (hlen : ∀ f, s.txf = some f → f.length = 9) (h : step s = .next t) :
    WireGrows s t ∧ ((∀ p rest, s.inputs ≠ .issue p :: rest) → t.calls = s.calls) := by
  obtain ⟨-, hs⟩ | ⟨p, i, rest, hp, -, hs⟩ | ⟨p, e, rest, -, -, hs⟩ | ⟨a, rest, -, hs⟩ | ⟨a, rest, -, hs⟩ |
    ⟨d, rest, -, hs⟩ | ⟨rest, -, hs⟩ := step_cases s <;> rw [hs] at h
  · cases h
    exact ⟨wireGrows_of_eq rfl, fun _ => rfl⟩
  · exact ⟨exec_wireGrows (s := dropInput rest s) h, fun hno => absurd hp (hno p rest)⟩
  · cases h
  · obtain ⟨hw, hcalls⟩ := acceptWriteAnswer_next (s := dropInput rest s) hlen h
    exact ⟨hw, fun _ => hcalls⟩
  · obtain ⟨hw, hcalls⟩ := acceptReadAnswer_next h
    exact ⟨hw, fun _ => hcalls⟩
  · cases h
    exact ⟨resetCodec_wireGrows (s := dropInput rest s) d hlen, fun _ => rfl⟩
  · cases h
    exact ⟨wireGrows_of_eq rfl, fun _ => rfl⟩

theorem State.Inv.txf_length (hi : s.Inv) (hf : s.txf = some f) : f.length = 9 := (hi.txfOfCmd f hf).1.1

end Sys2Proof.Machine

open Sys2Proof Sys2Proof.Machine

/-- Settles O49: only the start of a write or a read makes an access, and under the invariant the frame that a
step can put on the wire has 9 bytes. -/
theorem oneAccessPerOperationAndNoRetry : Obligations.OneAccessPerOperationAndNoRetry := by
  refine ⟨fun i s hs => ?_, fun s t hi h => ?_⟩
  · obtain ⟨t, ht, -, haccess⟩ := exec_of_ready i hs
    exact ⟨t, ht, haccess⟩
  · obtain ⟨hw, hcalls⟩ := step_next_access (fun _ => hi.txf_length) h
    exact ⟨hcalls, hw⟩

end

section
/-! PROOF. The checksum, the packed value and the request frame (spec/30_encoding.md R63, R65, R66). A frame is
read as the unsigned integers of its bytes, and its checksum is the sum of those modulo 256. -/

namespace Sys2Proof.Machine

/-! ### The checksum (R65) -/

theorem byteSum_le (p : Bytes) : byteSum p ≤ 255 * p.length := by
  induction p with
  | nil => simp
  | cons b p ih =>
    have hb := b.isLt
    rw [byteSum_cons, List.length_cons]
    omega

theorem eq_checksum8_iff (b : Byte) (p : Bytes) : b = checksum8 p ↔ b.toNat = byteSum p % 256 := by
  rw [← BitVec.toNat_inj, checksum8_toNat]

theorem wellChecksummed_nine_iff (b0 b1 b2 b3 b4 b5 b6 b7 b8 : Byte) :
    wellChecksummed [b0, b1, b2, b3, b4, b5, b6, b7, b8] = true ↔
      b8 = checksum8 [b0, b1, b2, b3, b4, b5, b6, b7] := by
  simp [wellChecksummed]

theorem requestFrame_last (c : Command) :
    (requestFrame c)[8]? = some (checksum8 ((requestFrame c).take 8)) := rfl

/-! ### Replies are held to the same checksum (R65, R123) -/

/-- The status check comes after the checksum, and raises no `ChecksumError` (R124 to R128). -/
theorem statusOutcome_ne_checksumError (cfg : Config) (r : Reply) (received computed : Byte) :
    statusOutcome cfg r ≠ .error (.checksumError received computed) := by
  unfold statusOutcome
  cases statusClass r.status <;> simp

theorem replyOutcome_of_wellChecksummed {cfg : Config} {f : Bytes} (hlen : f.length = 9)
    (h : wellChecksummed f = true) : ∃ r, parseReply f = some r ∧ replyOutcome cfg f = statusOutcome cfg r := by
  obtain ⟨b0, b1, b2, b3, b4, b5, b6, b7, b8, rfl⟩ := eq_nine_of_length hlen
  refine ⟨_, rfl, if_neg ?_⟩
  exact not_not_intro ((wellChecksummed_nine_iff b0 b1 b2 b3 b4 b5 b6 b7 b8).1 h)

theorem replyOutcome_of_not_wellChecksummed {cfg : Config} {f : Bytes} (hlen : f.length = 9)
    (h : wellChecksummed f = false) :
    ∃ received, replyOutcome cfg f = .error (.checksumError received (checksum8 (f.take 8))) := by
  obtain ⟨b0, b1, b2, b3, b4, b5, b6, b7, b8, rfl⟩ := eq_nine_of_length hlen
  refine ⟨b8, if_pos fun hb => ?_⟩
  exact absurd ((wellChecksummed_nine_iff b0 b1 b2 b3 b4 b5 b6 b7 b8).2 hb) (by simp [h])

theorem replyOutcome_checksumError_iff (cfg : Config) {f : Bytes} (hlen : f.length = 9) :
    (∃ received computed, replyOutcome cfg f = .error (.checksumError received computed)) ↔
      wellChecksummed f = false := by
  constructor
  · rintro ⟨received, computed, he⟩
    rw [Bool.eq_false_iff]
    intro hw
    obtain ⟨r, -, hr⟩ := replyOutcome_of_wellChecksummed (cfg := cfg) hlen hw
    exact statusOutcome_ne_checksumError cfg r received computed (hr ▸ he)
  · intro h
    obtain ⟨received, hr⟩ := replyOutcome_of_not_wellChecksummed (cfg := cfg) hlen h
    exact ⟨received, _, hr⟩

/-! ### Bytes read as unsigned integers (R63, R68) -/

/-- The bytes of a sequence as unsigned integers (R11). -/
def byteInts (p : Bytes) : List Int := p.map fun b => (b.toNat : Int)

theorem byteInts_append (p q : Bytes) : byteInts (p ++ q) = byteInts p ++ byteInts q := List.map_append

theorem byteInts_sum (p : Bytes) : (byteInts p).sum = byteSum p := by
  induction p with
  | nil => rfl
  | cons b p ih => rw [byteSum_cons, Nat.cast_add, ← ih]; rfl

theorem byteInts_checksum8 (p : Bytes) : byteInts [checksum8 p] = [(byteInts p).sum % 256] := by
  rw [byteInts_sum]
  simp [byteInts, checksum8_toNat]

theorem byteInts_bePack32 (v : Int) : byteInts (bePack32 v) =
    [v % 4294967296 / 16777216, v % 4294967296 / 65536 % 256, v % 4294967296 / 256 % 256,
      v % 4294967296 % 256] := by
  obtain ⟨b4, b5, b6, b7, hp, h4, h5, h6, h7⟩ := bePack32_digits v
  simp only [hp, byteInts, List.map, h4, h5, h6, h7]

end Sys2Proof.Machine

open Sys2Proof Sys2Proof.Machine

/-- Settles O1: every clause reads the checksum as the byte sum modulo 256, and a reply is checked with the one
checksum that a request carries. -/
theorem checksumIsUnsignedByteSumMod256 : Obligations.ChecksumIsUnsignedByteSumMod256 := by
  refine ⟨fun b0 b1 b2 b3 b4 b5 b6 b7 b8 => ?_, requestFrame_last,
    fun cfg f hlen => replyOutcome_checksumError_iff cfg hlen, by decide, by decide⟩
  have hsum : byteSum [b0, b1, b2, b3, b4, b5, b6, b7] =
      b0.toNat + b1.toNat + b2.toNat + b3.toNat + b4.toNat + b5.toNat + b6.toNat + b7.toNat := by
    simp [Nat.add_assoc]
  rw [wellChecksummed_nine_iff, eq_checksum8_iff, checksum8_toNat, hsum]
  exact ⟨hsum ▸ byteSum_le [b0, b1, b2, b3, b4, b5, b6, b7], rfl, Iff.rfl⟩

/-- Settles O2: the packed bytes are the base-256 digits of the value modulo 2^32, so their big-endian reading
puts it together again. -/
theorem valuePacksToBigEndianTwosComplement : Obligations.ValuePacksToBigEndianTwosComplement := by
  refine ⟨fun v _ _ => ?_, by decide, by decide, by decide, by decide, by decide⟩
  obtain ⟨b4, b5, b6, b7, hp, h4, h5, h6, h7⟩ := bePack32_digits v
  refine ⟨b4, b5, b6, b7, hp, ?_⟩
  rw [h4, h5, h6, h7]
  omega

/-- Settles O4: an operand in range is the unsigned value of its byte, and the checksum of the payload is the sum
of its unsigned values modulo 256. -/
theorem requestFrameBytesAreFieldsValueAndChecksum :
    Obligations.RequestFrameBytesAreFieldsValueAndChecksum := by
  rintro cfg c ⟨haddress, hinstruction, htype, hmotor, -, -⟩
  have hpayload : byteInts (framePayload (u8 c.address) (u8 c.instruction) (u8 c.type) (u8 c.motor) c.value) =
      [c.address, c.instruction, c.type, c.motor] ++ byteInts (bePack32 c.value) := by
    rw [framePayload, byteInts_append]
    simp only [byteInts, List.map, u8_toNat haddress, u8_toNat hinstruction, u8_toNat htype, u8_toNat hmotor]
  rw [byteInts_bePack32] at hpayload
  change byteInts (requestFrame c) = _
  rw [requestFrame, byteInts_append, byteInts_checksum8, hpayload]
  rfl

end

section
/-! PROOF. The status codes (spec/30_encoding.md R75, R76) and the outcomes they give a reply. -/

namespace Sys2Proof.Machine

variable {r : Reply}

/-! ### The classes -/

theorem statusClass_eq_success_iff (s : Byte) : statusClass s = .success ↔ s.toNat = 100 := by
  unfold statusClass
  split_ifs <;> simp_all

theorem statusClass_eq_successStored_iff (s : Byte) : statusClass s = .successStored ↔ s.toNat = 101 := by
  unfold statusClass
  split_ifs <;> simp_all

theorem statusClass_eq_mappedError_iff (s : Byte) :
    statusClass s = .mappedError ↔ s.toNat ∈ [1, 2, 3, 4, 5, 6] := by
  have hmem : s.toNat ∈ [1, 2, 3, 4, 5, 6] ↔ 1 ≤ s.toNat ∧ s.toNat ≤ 6 := by simp; omega
  rw [hmem]
  unfold statusClass
  split_ifs <;> simp_all

/-- The four classes leave no code out: unknown is what none of the others is. -/
theorem statusClass_eq_unknown_iff (s : Byte) :
    statusClass s = .unknown ↔ s.toNat ∉ [1, 2, 3, 4, 5, 6, 100, 101] := by
  have hrest : statusClass s = .unknown ↔ ¬(statusClass s = .mappedError ∨ statusClass s = .success ∨
      statusClass s = .successStored) := by
    cases statusClass s <;> simp
  rw [hrest, statusClass_eq_mappedError_iff, statusClass_eq_success_iff, statusClass_eq_successStored_iff]
  simp [or_assoc]

/-! ### The outcomes -/

theorem statusOutcome_eq_ok_iff (cfg : Config) (r : Reply) :
    (∃ res, statusOutcome cfg r = .ok res) ↔ r.status.toNat = 100 ∨ r.status.toNat = 101 := by
  rw [← statusClass_eq_success_iff, ← statusClass_eq_successStored_iff]
  unfold statusOutcome
  cases statusClass r.status <;> simp

/-- A mapped failure raises its code with the message of the table (R126). -/
theorem statusOutcome_of_mapped (cfg : Config) {code : Byte} {message : String} (hr : r.status.toNat = code.toNat)
    (hclass : statusClass code = .mappedError) (hmessage : statusMessage code = some message) :
    statusOutcome cfg r = .error (.protocolError code message) := by
  obtain rfl : r.status = code := BitVec.eq_of_toNat_eq hr
  simp [statusOutcome, hclass, hmessage]

/-- An unknown status raises the raw code with the configured message (R127). -/
theorem statusOutcome_of_unknown (cfg : Config) (h : statusClass r.status = .unknown) :
    statusOutcome cfg r = .error (.protocolError r.status cfg.unknownStatusMessage) := by
  simp [statusOutcome, h]

end Sys2Proof.Machine

open Sys2Proof Sys2Proof.Machine

/-- Settles O7: the classes split the codes as listed, and the outcome of a reply follows the class of its
status. -/
theorem statusClassesAndMessagesAreAsListed : Obligations.StatusClassesAndMessagesAreAsListed := by
  refine ⟨fun s => ⟨statusClass_eq_success_iff s, statusClass_eq_successStored_iff s,
    statusClass_eq_mappedError_iff s, statusClass_eq_unknown_iff s⟩, ⟨rfl, rfl⟩, fun cfg r => ?_⟩
  exact ⟨statusOutcome_eq_ok_iff cfg r,
    fun h => statusOutcome_of_mapped cfg h rfl rfl, fun h => statusOutcome_of_mapped cfg h rfl rfl,
    fun h => statusOutcome_of_mapped cfg h rfl rfl, fun h => statusOutcome_of_mapped cfg h rfl rfl,
    fun h => statusOutcome_of_mapped cfg h rfl rfl, fun h => statusOutcome_of_mapped cfg h rfl rfl,
    fun h => statusOutcome_of_unknown cfg ((statusClass_eq_unknown_iff r.status).2 h)⟩

end

section
/-! PROOF. `ENCODE` after its operand check (spec/40_encoder.md R103, R106, R107): operands that do not
pass end it before any access, and operands that pass are only copied into the frame. -/

namespace Sys2Proof.Machine

variable {s s₁ s₂ : State} {f g : Bytes}

/-! ### Operands that do not pass (R101 to R103) -/

/-- Each of the six checks raises a `ContractViolation` and no other error. -/
theorem checkCommand_eq_some {cfg : Config} {c : Command} {e : OpError} (h : checkCommand cfg c = some e) :
    ∃ fld offered why, e = .contractViolation fld offered why := by
  unfold checkCommand at h
  split_ifs at h <;> cases h <;> exact ⟨_, _, _, rfl⟩

/-- The violation is raised right after the issue, before the frame and the write (R100, R103). -/
theorem encodeOp_eq_of_not_legal {c : Command} (hs : Ready s) (hc : ¬LegalCommand s.config c) :
    ∃ fld offered why,
      encodeOp c s = .next (raiseEncoder (.contractViolation fld offered why) (issueCommand c s)) := by
  rw [encodeOp, whenReady_of_ready hs]
  cases he : checkCommand s.config c with
  | none => exact absurd ((checkCommand_eq_none_iff s.config c).1 he) hc
  | some e =>
    obtain ⟨fld, offered, why, rfl⟩ := checkCommand_eq_some he
    exact ⟨fld, offered, why, rfl⟩

/-! ### Operands that pass (R104, R107) -/

theorem encodeOp_eq_of_legal {c : Command} (hs : Ready s) (hc : LegalCommand s.config c) :
    encodeOp c s = sendCommand c (issueCommand c s) := by
  rw [encodeOp, whenReady_of_ready hs, (checkCommand_eq_none_iff s.config c).2 hc]

/-- Bytes 0 to 3 of the frame are the first four operands (R62, R107). -/
theorem requestFrame_fields {cfg : Config} {c : Command} (hc : LegalCommand cfg c) :
    ∃ b0 b1 b2 b3 rest, requestFrame c = b0 :: b1 :: b2 :: b3 :: rest ∧
      (b0.toNat : Int) = c.address ∧ (b1.toNat : Int) = c.instruction ∧
      (b2.toNat : Int) = c.type ∧ (b3.toNat : Int) = c.motor := by
  obtain ⟨haddress, hinstruction, htype, hmotor, -, -⟩ := hc
  exact ⟨_, _, _, _, _, rfl, u8_toNat haddress, u8_toNat hinstruction, u8_toNat htype, u8_toNat hmotor⟩

/-- Two states that differ in the operands, the frame, and what carries the frame: the outcome, the wire and the
access history. The outcome's code agrees once the operation has ended (R27), and the wire and the history have
the same lengths. -/
structure AgreesButForFrame (s₁ s₂ : State) : Prop where
  rest : { s₁ with cmd := s₂.cmd, txf := s₂.txf, encOut := s₂.encOut, txStream := s₂.txStream
                   calls := s₂.calls } = s₂
  outcomeCode : s₁.encPhase = .idle → encOutcomeCode <$> s₁.encOut = encOutcomeCode <$> s₂.encOut
  txStream : s₁.txStream.length = s₂.txStream.length
  calls : s₁.calls.length = s₂.calls.length

/-- One answer ends the writes of two frames of one length alike: how many bytes it sends depends on
their length only. -/
theorem finishWrite_agreesButForFrame (a : WriteAnswer) (hf : s₁.txf = some f) (hg : s₂.txf = some g)
    (hlen : f.length = g.length) (h : AgreesButForFrame s₁ s₂) :
    BothNext AgreesButForFrame (finishWrite a s₁) (finishWrite a s₂) := by
  rw [finishWrite_of_txf hf, finishWrite_of_txf hg]
  apply bothNext_of_rel
  cases a <;>
    exact ⟨by rw [← h.rest]; rfl, fun _ => rfl, by simp [h.txStream, hlen], h.calls⟩

theorem awaitWrite_agreesButForFrame (hf : s₁.txf = some f) (hg : s₂.txf = some g)
    (hlen : f.length = g.length) (h : AgreesButForFrame s₁ s₂) :
    BothNext AgreesButForFrame (awaitWrite s₁) (awaitWrite s₂) := by
  have hw : s₁.writeAnswers = s₂.writeAnswers := by rw [← h.rest]
  cases hw₁ : s₁.writeAnswers with
  | nil =>
    rw [awaitWrite_of_nil hw₁, awaitWrite_of_nil (hw ▸ hw₁)]
    exact bothNext_of_rel h
  | cons a rest =>
    rw [awaitWrite_of_cons hw₁, awaitWrite_of_cons (hw ▸ hw₁)]
    exact finishWrite_agreesButForFrame a hf hg hlen
      ⟨by rw [← h.rest], h.outcomeCode, h.txStream, h.calls⟩

/-- The writes of any two commands from one state begin with one access each and go on alike. -/
theorem sendCommand_agreesButForFrame (c d : Command) (s : State) :
    BothNext AgreesButForFrame (sendCommand c (issueCommand c s)) (sendCommand d (issueCommand d s)) :=
  awaitWrite_agreesButForFrame (startWrite_txf _ _) (startWrite_txf _ _)
    ((requestFrame_length c).trans (requestFrame_length d).symm) ⟨rfl, nofun, rfl, by simp⟩

end Sys2Proof.Machine

open Sys2Proof Sys2Proof.Machine

/-- Settles O18: every `ENCODE` row is `encodeOp` of its command, which raises the violation right after the
issue. -/
theorem contractViolationMakesNoChannelAccess : Obligations.ContractViolationMakesNoChannelAccess := by
  intro i c s hi hs hc
  obtain ⟨fld, offered, why, h⟩ := encodeOp_eq_of_not_legal hs hc
  rw [exec_eq_shared, hi]
  exact ⟨_, fld, offered, why, h, rfl, rfl, rfl, rfl, rfl, rfl⟩

/-- Settles O19: from either state the write of the one `requestFrame c` leaves that frame in `TXF`. -/
theorem txfIsAFunctionOfTheOperands : Obligations.TxfIsAFunctionOfTheOperands := by
  intro s₁ s₂ c hs₁ hs₂ hc₁ hc₂
  obtain ⟨t₁, h₁, -, hf₁, -⟩ := encodeOp_of_legal hs₁ hc₁
  obtain ⟨t₂, h₂, -, hf₂, -⟩ := encodeOp_of_legal hs₂ hc₂
  exact ⟨t₁, t₂, requestFrame c, h₁, h₂, hf₁, hf₂⟩

/-- Settles O20: both values pass the same checks, and the writes of their two frames, each of 9 bytes, go on
alike. -/
theorem instructionValueChangesOnlyTheFrame : Obligations.InstructionValueChangesOnlyTheFrame := by
  intro s a i j t m v hs hi hj
  obtain ⟨t₁, h₁, -, hf, -⟩ := encodeOp_of_legal hs hi
  obtain ⟨t₂, h₂, -, hg, -⟩ := encodeOp_of_legal hs hj
  obtain ⟨b0, b1, b2, b3, rest, hframe, ha, hinstruction, ht, hm⟩ := requestFrame_fields hi
  have hboth : BothNext AgreesButForFrame (encodeOp ⟨a, i, t, m, v⟩ s) (encodeOp ⟨a, j, t, m, v⟩ s) := by
    rw [encodeOp_eq_of_legal hs hi, encodeOp_eq_of_legal hs hj]
    exact sendCommand_agreesButForFrame _ _ s
  obtain ⟨t₁', t₂', h₁', h₂', hagree⟩ := hboth
  cases h₁.symm.trans h₁'
  cases h₂.symm.trans h₂'
  exact ⟨t₁, t₂, _, _, b0, b1, b2, b3, rest, h₁, h₂, hf, hg, hframe, ha, hinstruction, ht, hm,
    hagree.rest, hagree.outcomeCode, hagree.txStream, hagree.calls⟩

end

section
/-! PROOF. The decoder's reading of a reply (spec/41_decoder.md R120 to R124): nine bytes always parse and their
outcome is the checksum's or the status's, never the channel's; `DECODE` with an answer at hand ends its read
with it. -/

namespace Sys2Proof.Machine

variable {s : State}

/-! ### Parsing (R122) -/

/-- The signed reading with its case split written out over the unsigned sum (R67). -/
theorem beUnpack32_eq_ite (b4 b5 b6 b7 : Byte) {u : Int}
    (hu : u = b4.toNat * 16777216 + b5.toNat * 65536 + b6.toNat * 256 + b7.toNat) :
    beUnpack32 b4 b5 b6 b7 = if 2147483648 ≤ u then u - 4294967296 else u := by
  obtain ⟨hsum, -⟩ := beNat32_eq_sum b4 b5 b6 b7
  have hnat : (beNat32 b4 b5 b6 b7 : Int) = u := by omega
  rw [beUnpack32]
  obtain ⟨hlt, hs⟩ | ⟨hle, hs⟩ := sext32_cases (beNat32 b4 b5 b6 b7)
  · rw [hs, hnat, if_neg (by omega)]
  · rw [hs, hnat, if_pos (by omega)]

theorem parseReply_isSome_of_length {f : Bytes} (hlen : f.length = 9) : ∃ r, parseReply f = some r :=
  Option.ne_none_iff_exists'.1 fun h => (parseReply_eq_none_iff f).1 h hlen

/-! ### The outcome of nine bytes (R121 to R124) -/

/-- The status check raises no `IOError` (R124 to R127). -/
theorem statusOutcome_ne_ioError (cfg : Config) (r : Reply) (k : IOErrorKind) :
    statusOutcome cfg r ≠ .error (.ioError k) := by
  unfold statusOutcome
  cases statusClass r.status <;> simp

theorem replyOutcome_ne_ioError_of_length (cfg : Config) {f : Bytes} (hlen : f.length = 9) (k : IOErrorKind) :
    replyOutcome cfg f ≠ .error (.ioError k) := by
  cases hw : wellChecksummed f with
  | true =>
    obtain ⟨r, -, hr⟩ := replyOutcome_of_wellChecksummed (cfg := cfg) hlen hw
    exact hr ▸ statusOutcome_ne_ioError cfg r k
  | false =>
    obtain ⟨received, hr⟩ := replyOutcome_of_not_wellChecksummed (cfg := cfg) hlen hw
    simp [hr]

/-- Past the checksum the parsed fields go to the status check (R123, R128). -/
theorem replyOutcome_nine_of_checksum (cfg : Config) {b0 b1 b2 b3 b4 b5 b6 b7 b8 : Byte}
    (h : b8 = checksum8 [b0, b1, b2, b3, b4, b5, b6, b7]) :
    replyOutcome cfg [b0, b1, b2, b3, b4, b5, b6, b7, b8] =
      statusOutcome cfg ⟨b0, b1, b2, b3, beUnpack32 b4 b5 b6 b7, b8⟩ := by
  obtain ⟨r, hp, hr⟩ := replyOutcome_of_wellChecksummed (cfg := cfg) rfl
    ((wellChecksummed_nine_iff b0 b1 b2 b3 b4 b5 b6 b7 b8).2 h)
  cases hp
  exact hr

theorem statusOutcome_of_success (cfg : Config) {r : Reply} (h : statusClass r.status = .success) :
    statusOutcome cfg r = .ok (resultOf r) := by
  simp [statusOutcome, h]

/-! ### `DECODE` with an answer at hand (R120) -/

/-- The answer at the head ends the read. -/
theorem exec_decode_of_cons {a : ReadAnswer} {rest : List ReadAnswer} (hs : Ready s)
    (hr : s.readAnswers = a :: rest) :
    exec .decode s = .next (finishRead a { startRead s with readAnswers := rest }) := by
  change decodeOp none s = _
  rw [decodeOp, whenReady_of_ready hs]
  exact awaitRead_of_cons (s := startRead s) hr

/-- `RES` and the outcome are written over the registers the read left (R120). -/
theorem exec_decode_of_ok {f : Bytes} {r : Result} {rest : List ReadAnswer} (hs : Ready s)
    (hr : s.readAnswers = .bytes f :: rest) (hok : replyOutcome s.config f = .ok r) :
    exec .decode s = .next (returnDecoder r (receive f { startRead s with readAnswers := rest })) := by
  rw [exec_decode_of_cons hs hr]
  simp [finishRead, hok]

end Sys2Proof.Machine

open Sys2Proof Sys2Proof.Machine

/-- Settles O8: the parsed value is the signed reading of bytes 4 to 7, and nine bytes leave only the checksum and
the status to raise an error. -/
theorem parsingTakesTheFieldsInOrder : Obligations.ParsingTakesTheFieldsInOrder := by
  refine ⟨fun b0 b1 b2 b3 b4 b5 b6 b7 b8 => ?_, fun f hlen =>
    ⟨parseReply_isSome_of_length hlen, fun cfg k => replyOutcome_ne_ioError_of_length cfg hlen k⟩⟩
  rw [parseReply, beUnpack32_eq_ite b4 b5 b6 b7 rfl]

/-- Settles O25: the read ends with the frame at hand, which passes the checksum, and status 100 returns its
fields. -/
theorem decodeOfStatus100ReturnsResult : Obligations.DecodeOfStatus100ReturnsResult := by
  intro s b0 b1 b3 b4 b5 b6 b7 b8 rest hs hr hchecksum
  have hok : replyOutcome s.config [b0, b1, 100, b3, b4, b5, b6, b7, b8] =
      .ok ⟨b0, b1, 100, b3, beUnpack32 b4 b5 b6 b7, false⟩ :=
    (replyOutcome_nine_of_checksum s.config hchecksum).trans (statusOutcome_of_success s.config rfl)
  exact exec_decode_of_ok hs hr hok

end

section
/-! PROOF. The packed value, the request frame and the frame word (spec/30_encoding.md R66, R67, spec/40_encoder.md
R108, spec/00_scope.md R12): each is a reading of bytes as digits in base 256, and each reading is undone by taking
the digits again. -/

namespace Sys2Proof.Machine

/-! ### Packing and unpacking are inverse (R66, R67) -/

theorem beUnpack32_bounds (b4 b5 b6 b7 : Byte) :
    -2147483648 ≤ beUnpack32 b4 b5 b6 b7 ∧ beUnpack32 b4 b5 b6 b7 ≤ 2147483647 := by
  obtain ⟨-, hlt⟩ := beNat32_eq_sum b4 b5 b6 b7
  rw [beUnpack32]
  obtain ⟨h, hs⟩ | ⟨h, hs⟩ := sext32_cases (beNat32 b4 b5 b6 b7) <;> rw [hs] <;> omega

/-- The signed reading is the unsigned one modulo 2^32. -/
theorem beUnpack32_emod (b4 b5 b6 b7 : Byte) :
    beUnpack32 b4 b5 b6 b7 % 4294967296 =
      b4.toNat * 16777216 + b5.toNat * 65536 + b6.toNat * 256 + b7.toNat := by
  obtain ⟨hsum, hlt⟩ := beNat32_eq_sum b4 b5 b6 b7
  rw [beUnpack32]
  obtain ⟨h, hs⟩ | ⟨h, hs⟩ := sext32_cases (beNat32 b4 b5 b6 b7) <;> rw [hs] <;> omega

theorem bePack32_beUnpack32 (b4 b5 b6 b7 : Byte) : bePack32 (beUnpack32 b4 b5 b6 b7) = [b4, b5, b6, b7] := by
  obtain ⟨c4, c5, c6, c7, hp, h4, h5, h6, h7⟩ := bePack32_digits (beUnpack32 b4 b5 b6 b7)
  rw [beUnpack32_emod] at h4 h5 h6 h7
  have l4 := b4.isLt
  have l5 := b5.isLt
  have l6 := b6.isLt
  have l7 := b7.isLt
  have e4 : c4 = b4 := BitVec.eq_of_toNat_eq (by omega)
  have e5 : c5 = b5 := BitVec.eq_of_toNat_eq (by omega)
  have e6 : c6 = b6 := BitVec.eq_of_toNat_eq (by omega)
  have e7 : c7 = b7 := BitVec.eq_of_toNat_eq (by omega)
  rw [hp, e4, e5, e6, e7]

/-- Two values of `i32` that agree modulo 2^32 are equal, so the packed bytes determine the value. -/
theorem beUnpack32_of_bePack32 {v : Int} (hv : -2147483648 ≤ v ∧ v ≤ 2147483647) {b4 b5 b6 b7 : Byte}
    (hp : bePack32 v = [b4, b5, b6, b7]) : beUnpack32 b4 b5 b6 b7 = v := by
  obtain ⟨c4, c5, c6, c7, hc, h4, h5, h6, h7⟩ := bePack32_digits v
  cases hp.symm.trans hc
  have hmod := beUnpack32_emod b4 b5 b6 b7
  obtain ⟨hlo, hhi⟩ := beUnpack32_bounds b4 b5 b6 b7
  omega

/-! ### A reply frame parses to its fields (R64, R122) -/

/-- The value is read back modulo 2^32, and exactly where it is in `i32`. -/
theorem parseReply_replyFrame (r : Reply) :
    ∃ w, parseReply (replyFrame r) = some { r with value := w } ∧
      (-2147483648 ≤ r.value ∧ r.value ≤ 2147483647 → w = r.value) := by
  obtain ⟨b4, b5, b6, b7, hp, -⟩ := bePack32_digits r.value
  refine ⟨beUnpack32 b4 b5 b6 b7, ?_, fun hv => beUnpack32_of_bePack32 hv hp⟩
  rw [replyFrame, framePayload, hp]
  rfl

theorem parseReply_replyFrame_of_i32 {r : Reply} (hv : -2147483648 ≤ r.value ∧ r.value ≤ 2147483647) :
    parseReply (replyFrame r) = some r := by
  obtain ⟨w, hparse, hw⟩ := parseReply_replyFrame r
  rw [hparse, hw hv]

theorem parseReply_value_bounds {f : Bytes} {r : Reply} (h : parseReply f = some r) :
    -2147483648 ≤ r.value ∧ r.value ≤ 2147483647 := by
  unfold parseReply at h
  split at h
  · cases h
    exact beUnpack32_bounds ..
  · cases h

theorem replyFrame_of_parseReply {f : Bytes} {r : Reply} (h : parseReply f = some r) : replyFrame r = f := by
  unfold parseReply at h
  split at h
  · cases h
    rw [replyFrame, framePayload, bePack32_beUnpack32]
    rfl
  · cases h

/-! ### The request frame (R63, R108) -/

/-- The reply that has the bytes of a request frame: both formats have the same payload and checksum (R69). -/
def echoReply (c : Command) : Reply :=
  ⟨u8 c.address, u8 c.instruction, u8 c.type, u8 c.motor, c.value,
    checksum8 (framePayload (u8 c.address) (u8 c.instruction) (u8 c.type) (u8 c.motor) c.value)⟩

theorem requestFrame_eq_replyFrame (c : Command) : requestFrame c = replyFrame (echoReply c) := rfl

theorem requestFrame_sound (c : Command) : SoundFrame (requestFrame c) :=
  ⟨requestFrame_length c, decide_eq_true ⟨requestFrame_length c, requestFrame_last c⟩⟩

theorem u8_inj {x y : Int} (hx : 0 ≤ x ∧ x ≤ 255) (hy : 0 ≤ y ∧ y ≤ 255) (h : u8 x = u8 y) : x = y := by
  rw [← u8_toNat hx, h, u8_toNat hy]

/-- The byte of a numeral that is a byte. -/
theorem u8_toNat_cast (b : Byte) : u8 b.toNat = b := by
  have hb := b.isLt
  have h := u8_toNat (x := b.toNat) (by omega)
  exact BitVec.eq_of_toNat_eq (by omega)

/-- Parsing the frame gives the operands' bytes and the value, which have the operands' values. -/
theorem requestFrame_injective {cfg : Config} {c d : Command} (hc : LegalCommand cfg c) (hd : LegalCommand cfg d)
    (h : requestFrame c = requestFrame d) : c = d := by
  obtain ⟨ca, ci, ct, cm, cv, -⟩ := hc
  obtain ⟨da, di, dt, dm, dv, -⟩ := hd
  have hparse : echoReply c = echoReply d := by
    have hp := congrArg parseReply h
    rw [requestFrame_eq_replyFrame, requestFrame_eq_replyFrame, parseReply_replyFrame_of_i32 cv,
      parseReply_replyFrame_of_i32 dv] at hp
    exact Option.some.inj hp
  obtain ⟨ha, hi, ht, hm, hv, -⟩ := Reply.mk.inj hparse
  cases c
  cases d
  exact Command.mk.injEq .. ▸ ⟨u8_inj ca da ha, u8_inj ci di hi, u8_inj ct dt ht, u8_inj cm dm hm, hv⟩

/-! ### Frame words (R12) -/

theorem frameWord_append (f : Bytes) (b : Byte) : frameWord (f ++ [b]) = frameWord f * 256 + b.toNat := by
  simp [frameWord]

/-- The `n` low bytes of a number, most significant first. -/
def lowBytes : Nat → Nat → Bytes
  | 0, _ => []
  | n + 1, w => lowBytes n (w / 256) ++ [BitVec.ofNat 8 (w % 256)]

theorem frameOfWord_eq_lowBytes (w : Nat) : frameOfWord w = lowBytes 9 w := by
  simp [frameOfWord, lowBytes, Nat.div_div_eq_div_mul]

theorem frameWord_lowBytes (n w : Nat) : frameWord (lowBytes n w) = w % 256 ^ n := by
  induction n generalizing w with
  | zero => simp [lowBytes, frameWord, Nat.mod_one]
  | succ n ih =>
    have hlast : (BitVec.ofNat 8 (w % 256)).toNat = w % 256 := by simp
    rw [lowBytes, frameWord_append, ih, hlast, Nat.pow_succ', Nat.mod_mul]
    omega

theorem lowBytes_frameWord (f : Bytes) : lowBytes f.length (frameWord f) = f := by
  induction f using List.reverseRecOn with
  | nil => rfl
  | append_singleton f b ih =>
    have hb := b.isLt
    have hdiv : (frameWord f * 256 + b.toNat) / 256 = frameWord f := by omega
    have hmod : (frameWord f * 256 + b.toNat) % 256 = b.toNat := by omega
    rw [frameWord_append, List.length_append, List.length_singleton, lowBytes, hdiv, hmod, ih,
      BitVec.ofNat_toNat, BitVec.setWidth_eq]

/-- Byte `k` is the digit that has `f.length - 1 - k` digits below it. -/
theorem frameWord_digit {f : Bytes} {k : Nat} {b : Byte} (h : f[k]? = some b) :
    frameWord f / 256 ^ (f.length - 1 - k) % 256 = b.toNat := by
  induction f using List.reverseRecOn with
  | nil => simp at h
  | append_singleton f c ih =>
    have hc := c.isLt
    rw [frameWord_append, List.length_append, List.length_singleton, Nat.add_sub_cancel]
    by_cases hk : k < f.length
    · rw [List.getElem?_append_left hk] at h
      have hexp : f.length - k = (f.length - 1 - k) + 1 := by omega
      have hdiv : (frameWord f * 256 + c.toNat) / 256 = frameWord f := by omega
      rw [hexp, Nat.pow_succ', ← Nat.div_div_eq_div_mul, hdiv, ih h]
    · rw [List.getElem?_append_right (by omega), List.getElem?_singleton] at h
      split at h
      · cases h
        have hexp : f.length - k = 0 := by omega
        rw [hexp, Nat.pow_zero, Nat.div_one]
        omega
      · cases h

end Sys2Proof.Machine

open Sys2Proof Sys2Proof.Machine

/-- Settles O3: the signed reading falls in `i32` and agrees with the unsigned one modulo 2^32, which the packed
bytes are the digits of. -/
theorem valuePackingIsABijection : Obligations.ValuePackingIsABijection := by
  refine ⟨fun b4 b5 b6 b7 => ?_, fun v hlo hhi b4 b5 b6 b7 hp => beUnpack32_of_bePack32 ⟨hlo, hhi⟩ hp⟩
  obtain ⟨hlo, hhi⟩ := beUnpack32_bounds b4 b5 b6 b7
  refine ⟨fun hu => ?_, fun hu => ?_, hlo, hhi, bePack32_beUnpack32 b4 b5 b6 b7⟩
  · obtain ⟨-, hs⟩ | ⟨hle, -⟩ := sext32_cases (beNat32 b4 b5 b6 b7)
    · exact hs
    · exact absurd hu (Nat.not_lt.2 hle)
  · obtain ⟨hlt, -⟩ | ⟨-, hs⟩ := sext32_cases (beNat32 b4 b5 b6 b7)
    · exact absurd hu (Nat.not_le.2 hlt)
    · exact hs

/-- Settles O5: parsing a request frame gives its operands back. -/
theorem requestFrameIsSoundAndInjective : Obligations.RequestFrameIsSoundAndInjective :=
  fun _ c _ hc hd => ⟨requestFrame_sound c, requestFrame_injective hc hd⟩

/-- Settles O6: a frame word is the reading of nine base-256 digits. -/
theorem frameWordsAndFramesCorrespond : Obligations.FrameWordsAndFramesCorrespond := by
  refine ⟨fun w hw => ⟨frameOfWord_length w, ?_⟩, fun f hlen => ?_, fun f k b hlen hb => ?_⟩
  · rw [frameOfWord_eq_lowBytes, frameWord_lowBytes]
    exact Nat.mod_eq_of_lt hw
  · rw [frameOfWord_eq_lowBytes, ← hlen, lowBytes_frameWord]
  · have hdigit := frameWord_digit hb
    rwa [hlen] at hdigit

end

section
/-! PROOF. The decoder of issues and the encoder (spec/30_encoding.md R60 to R64 and the table's rows): a frame word
is read as its fields, and the row that the fields name has that frame word as its encoding. -/

namespace Sys2Proof

open Sys2Proof.Machine

/-! ### Frame words are read as their fields (R62, R64) -/

theorem decode_request_nine (a i t m b4 b5 b6 b7 b8 : Byte) :
    decode (.request [a, i, t, m, b4, b5, b6, b7, b8]) =
      .ok (requestInstr a.toNat i.toNat t.toNat m.toNat (beUnpack32 b4 b5 b6 b7)) := rfl

/-- The operands of a request word as the naturals that its bytes hold. -/
theorem exists_nat_of_fitsRequest {a t m v : Int} (h : fitsRequest a t m v = true) :
    (∃ a' t' m' : Nat, a = a' ∧ t = t' ∧ m = m' ∧ a' < 256 ∧ t' < 256 ∧ m' < 256) ∧
      (-2147483648 ≤ v ∧ v ≤ 2147483647) := by
  simp only [fitsRequest, Bool.and_eq_true, inU8_iff, inI32_iff] at h
  obtain ⟨⟨⟨ha, ht⟩, hm⟩, hv⟩ := h
  exact ⟨⟨a.toNat, t.toNat, m.toNat, by omega⟩, hv⟩

theorem opcodeValue_lt (o : Opcode) : opcodeValue o < 256 := by cases o <;> decide

/-- The decoder reads the operands of an opcode's request word back. -/
theorem decode_requestIssue (o : Opcode) {a t m v : Int} (h : fitsRequest a t m v = true) :
    ∃ a' t' m' : Nat, a = a' ∧ t = t' ∧ m = m' ∧
      decode (requestIssue o a t m v) = .ok (requestInstr a' (opcodeValue o) t' m' v) := by
  obtain ⟨⟨a, t, m, rfl, rfl, rfl, ha, ht, hm⟩, hv⟩ := exists_nat_of_fitsRequest h
  obtain ⟨b4, b5, b6, b7, hp, -⟩ := bePack32_digits v
  have hbyte {n : Nat} (hn : n < 256) : (u8 n).toNat = n :=
    Int.ofNat.inj (u8_toNat (x := n) (by omega))
  refine ⟨a, t, m, rfl, rfl, rfl, ?_⟩
  rw [requestIssue, requestFrame, framePayload, hp]
  refine (decode_request_nine _ _ _ _ b4 b5 b6 b7 _).trans ?_
  rw [hbyte ha, hbyte (opcodeValue_lt o), hbyte ht, hbyte hm, beUnpack32_of_bePack32 hv hp]

/-- The word of a row whose opcode has no sub-options, in the row's own name. -/
theorem decode_requestIssue_eq {o : Opcode} {a t m v : Int} {row : Int → Int → Int → Int → Instr}
    (hrow : ∀ a' t' m' : Nat, requestInstr a' (opcodeValue o) t' m' v = row a' t' m' v)
    (h : fitsRequest a t m v = true) : decode (requestIssue o a t m v) = .ok (row a t m v) := by
  obtain ⟨a, t, m, rfl, rfl, rfl, hd⟩ := decode_requestIssue o h
  rw [hd, hrow]

/-- The word of the plain row of `MVP` or `RFS`: its type is none that a sub-option row names (R74). -/
theorem decode_requestIssue_of_plainType {o : Opcode} {a t m v : Int} {row : Int → Int → Int → Int → Instr}
    (hrow : ∀ a' t' m' : Nat, t' ≠ 0 → t' ≠ 1 → t' ≠ 2 →
      requestInstr a' (opcodeValue o) t' m' v = row a' t' m' v)
    (h : (fitsRequest a t m v && plainType t) = true) :
    decode (requestIssue o a t m v) = .ok (row a t m v) := by
  obtain ⟨hfits, hplain⟩ := Bool.and_eq_true_iff.1 h
  obtain ⟨a, t, m, rfl, rfl, rfl, hd⟩ := decode_requestIssue o hfits
  obtain ⟨h0, h1, h2⟩ : t ≠ 0 ∧ t ≠ 1 ∧ t ≠ 2 := by
    simp [plainType] at hplain
    omega
  rw [hd, hrow a t m h0 h1 h2]

/-- The word of a sub-option's row, in the row's own name (R71, R72). -/
theorem decode_subOptionIssue_eq {o : SubOption} {a m v : Int} {row : Int → Int → Int → Instr}
    (hrow : ∀ a' m' : Nat,
      requestInstr a' (opcodeValue (subOptionOpcode o)) (subOptionValue o) m' v = row a' m' v)
    (h : fitsRequest a 0 m v = true) : decode (subOptionIssue o a m v) = .ok (row a m v) := by
  have hvalue : inU8 (subOptionValue o) = inU8 0 := by cases o <;> rfl
  have hfits : fitsRequest a (subOptionValue o) m v = true := by rw [fitsRequest, hvalue]; exact h
  obtain ⟨a, t, m, rfl, ht, rfl, hd⟩ := decode_requestIssue (subOptionOpcode o) hfits
  cases Int.ofNat.inj ht
  rw [subOptionIssue, hd, hrow]

/-- A reply word is read as the row of its status. -/
theorem decode_replyIssue {r m s e : Byte} {v : Int} (c : Byte) (hv : inI32 v = true) :
    decode (replyIssue r m s e v c) = .ok (replyInstr ⟨r, m, s, e, v, c⟩) := by
  rw [replyIssue, decode, parseReply_replyFrame_of_i32 ((inI32_iff v).1 hv)]

theorem replyInstr_of_unknown {r : Reply} (h : statusClass r.status = .unknown) :
    replyInstr r =
      .decodeStatusUnknown r.replyAddress r.moduleAddress r.status r.echoedInstruction r.value r.checksum := by
  have hs := (statusClass_eq_unknown_iff r.status).1 h
  simp only [List.mem_cons, List.not_mem_nil, or_false, not_or] at hs
  unfold replyInstr
  split <;> simp_all

/-! ### What an issue is read as is well-formed, and has that issue as its encoding -/

theorem fitsRequest_of_bytes (a t m b4 b5 b6 b7 : Byte) :
    fitsRequest a.toNat t.toNat m.toNat (beUnpack32 b4 b5 b6 b7) = true := by
  have hu8 (b : Byte) : inU8 b.toNat = true := (inU8_iff _).2 (by have := b.isLt; omega)
  rw [fitsRequest, hu8, hu8, hu8, (inI32_iff _).2 (beUnpack32_bounds b4 b5 b6 b7)]
  rfl

theorem plainType_of_ne {t : Nat} (h0 : t ≠ 0) (h1 : t ≠ 1) (h2 : t ≠ 2) : plainType t = true := by
  simp only [plainType, Bool.not_eq_true', Bool.or_eq_false_iff, beq_eq_false_iff_ne]
  omega

theorem requestInstr_wellFormed {a t m : Nat} (i : Nat) {v : Int} (h : fitsRequest a t m v = true) :
    (requestInstr a i t m v).wellFormed = true := by
  have hsub : fitsRequest a 0 m v = true := by
    simp only [fitsRequest, Bool.and_eq_true] at h ⊢
    obtain ⟨⟨⟨ha, -⟩, hm⟩, hv⟩ := h
    exact ⟨⟨⟨ha, rfl⟩, hm⟩, hv⟩
  have hplain (h0 : t ≠ 0) (h1 : t ≠ 1) (h2 : t ≠ 2) : (fitsRequest a t m v && plainType t) = true :=
    Bool.and_eq_true_iff.2 ⟨h, plainType_of_ne h0 h1 h2⟩
  unfold requestInstr
  split
  case h_4 | h_13 =>
    split
    case h_4 => exact hplain ‹_› ‹_› ‹_›
    all_goals exact hsub
  case h_22 => rfl
  all_goals exact h

/-- The row that a listed instruction byte names has the frame of the same fields as its encoding: `MVP` and `RFS`
through the row of the type, every other opcode through its own. -/
theorem encode_requestInstr {i : Nat} (a t m : Nat) (v : Int)
    (hi : i ∈ [1, 2, 3, 4, 5, 6, 7, 8, 9, 10, 11, 12, 13, 14, 15, 30, 31, 32, 128, 129, 131]) :
    encode (requestInstr a i t m v) = .request (requestFrame ⟨a, i, t, m, v⟩) := by
  match t with
  | 0 | 1 | 2 | t + 3 => fin_cases hi <;> rfl

/-- A word whose checksum matches is the request frame of the fields read from it. -/
theorem requestFrame_of_nine {a i t m b4 b5 b6 b7 b8 : Byte} (h : b8 = checksum8 [a, i, t, m, b4, b5, b6, b7]) :
    requestFrame ⟨a.toNat, i.toNat, t.toNat, m.toNat, beUnpack32 b4 b5 b6 b7⟩ =
      [a, i, t, m, b4, b5, b6, b7, b8] := by
  rw [requestFrame, framePayload, bePack32_beUnpack32, u8_toNat_cast, u8_toNat_cast, u8_toNat_cast, u8_toNat_cast, h]
  rfl

theorem replyInstr_wellFormed {r : Reply} (h : inI32 r.value = true) : (replyInstr r).wellFormed = true := by
  by_cases hs : statusClass r.status = .unknown
  · rw [replyInstr_of_unknown hs, Instr.wellFormed, h, hs]
    rfl
  · rw [statusClass_eq_unknown_iff, not_not] at hs
    unfold replyInstr
    split
    case h_9 => simp_all
    all_goals exact h

theorem encode_replyInstr (r : Reply) : encode (replyInstr r) = .reply (replyFrame r) := by
  obtain ⟨ra, ma, s, e, v, c⟩ := r
  have hs : BitVec.ofNat 8 s.toNat = s := by simp
  unfold replyInstr
  split
  case h_9 => rfl
  all_goals
    next h =>
      cases h ▸ hs
      rfl

/-! ### What the decoder rejects (R60, R61) -/

theorem decode_select_zero_error_iff (l : List Int) :
    decode (.select 0#1 l) = .error .operandCount ↔ l.length ≠ 5 := by
  match l with
  | [] | [_] | [_, _] | [_, _, _] | [_, _, _, _] | [_, _, _, _, _] | _ :: _ :: _ :: _ :: _ :: _ :: _ => simp [decode]

theorem decode_select_one_error_iff (l : List Int) :
    decode (.select 1#1 l) = .error .operandCount ↔ l.length ≠ 0 := by
  match l with
  | [] | _ :: _ => simp [decode]

theorem decode_request_of_length {f : Bytes} (h : f.length = 9) : ∃ i, decode (.request f) = .ok i := by
  obtain ⟨a, i, t, m, b4, b5, b6, b7, b8, rfl⟩ := eq_nine_of_length h
  exact ⟨_, decode_request_nine a i t m b4 b5 b6 b7 b8⟩

theorem decode_request_of_length_ne {f : Bytes} (h : f.length ≠ 9) : decode (.request f) = .error .frameLength := by
  simp only [decode]
  split
  · simp at h
  · rfl

theorem decode_reply_of_length {f : Bytes} (h : f.length = 9) : ∃ i, decode (.reply f) = .ok i := by
  obtain ⟨r, hr⟩ := parseReply_isSome_of_length h
  exact ⟨replyInstr r, by rw [decode, hr]⟩

theorem decode_reply_of_length_ne {f : Bytes} (h : f.length ≠ 9) : decode (.reply f) = .error .frameLength := by
  rw [decode, (parseReply_eq_none_iff f).2 h]

/-- A decoder that answers an operation wherever a property fails rejects exactly where it holds. -/
theorem decode_error_iff {p : Issue} {e : DecodeError} {P : Prop} (hbad : P → decode p = .error e)
    (hgood : ¬P → ∃ i, decode p = .ok i) : decode p = .error e ↔ P := by
  refine ⟨fun h => ?_, hbad⟩
  by_contra hP
  obtain ⟨i, hi⟩ := hgood hP
  cases h.symm.trans hi

end Sys2Proof

open Sys2Proof Sys2Proof.Machine

/-- Settles O9: the fields of a word are read back as they were written, and each row is the one that its own
numerals name. -/
theorem decodeOfEncodeIsTheInstruction : Obligations.DecodeOfEncodeIsTheInstruction := by
  intro i h
  cases i with
  | encode a n t m v => rfl
  | decode => rfl
  | encodeMvp a t m v | encodeRfs a t m v =>
    refine decode_requestIssue_of_plainType (fun a t m h0 h1 h2 => ?_) h
    simp only [opcodeValue, requestInstr]
  | encodeMvpAbs a m v | encodeMvpRel a m v | encodeMvpCoord a m v | encodeRfsStart a m v | encodeRfsStop a m v
  | encodeRfsStatus a m v => exact decode_subOptionIssue_eq (fun _ _ => rfl) h
  | decodeStatus100 r m e v c | decodeStatus101 r m e v c | decodeStatus1 r m e v c | decodeStatus2 r m e v c
  | decodeStatus3 r m e v c | decodeStatus4 r m e v c | decodeStatus5 r m e v c
  | decodeStatus6 r m e v c => exact decode_replyIssue c h
  | decodeStatusUnknown r m s e v c =>
    obtain ⟨hv, hs⟩ := Bool.and_eq_true_iff.1 h
    refine (decode_replyIssue c hv).trans ?_
    rw [replyInstr_of_unknown (of_decide_eq_true hs)]
  | encodeRor a t m v | encodeRol a t m v | encodeMst a t m v | encodeSap a t m v | encodeGap a t m v
  | encodeStap a t m v | encodeRsap a t m v | encodeSgp a t m v | encodeGgp a t m v | encodeStgp a t m v
  | encodeRsgp a t m v | encodeSio a t m v | encodeGio a t m v | encodeSco a t m v | encodeGco a t m v
  | encodeCco a t m v | encodeApplStop a t m v | encodeApplRun a t m v
  | encodeApplReset a t m v => exact decode_requestIssue_eq (fun _ _ _ => rfl) h

/-- Settles O10: whatever the fields of a word name is well-formed, since each field has the range of its byte, and
encodes to the frame of those fields. -/
theorem encodeOfDecodeIsTheIssue : Obligations.EncodeOfDecodeIsTheIssue := by
  intro p i h
  cases p with
  | select op operands =>
    obtain rfl | rfl := BitVec.eq_zero_or_eq_one op
    · match operands with
      | [a, n, t, m, v] => cases h; exact ⟨rfl, fun _ => rfl⟩
    · match operands with
      | [] => cases h; exact ⟨rfl, fun _ => rfl⟩
  | request f =>
    match f with
    | [a, n, t, m, b4, b5, b6, b7, b8] =>
      cases h
      refine ⟨requestInstr_wellFormed _ (fitsRequest_of_bytes a t m b4 b5 b6 b7), fun hf => ?_⟩
      obtain ⟨hsum, n', hn', hn⟩ := hf _ rfl
      cases hn'
      rw [encode_requestInstr _ _ _ _ hn, requestFrame_of_nine ((wellChecksummed_nine_iff ..).1 hsum)]
  | reply f =>
    rw [decode] at h
    cases hr : parseReply f with
    | none => simp [hr] at h
    | some r =>
      simp only [hr] at h
      cases h
      exact ⟨replyInstr_wellFormed ((inI32_iff r.value).2 (parseReply_value_bounds hr)),
        fun _ => by rw [encode_replyInstr, replyFrame_of_parseReply hr]⟩

/-- Settles O11: the shape of the operand list or of the frame is all that the decoder can reject. -/
theorem decodeRejectsOnlyWrongCounts : Obligations.DecodeRejectsOnlyWrongCounts := by
  refine ⟨fun op l => ?_,
    fun f => decode_error_iff decode_request_of_length_ne fun h => decode_request_of_length (not_not.1 h),
    fun f => decode_error_iff decode_reply_of_length_ne fun h => decode_reply_of_length (not_not.1 h),
    fun f h => ⟨decode_request_of_length h, decode_reply_of_length h⟩⟩
  obtain rfl | rfl := BitVec.eq_zero_or_eq_one op
  · rw [decode_select_zero_error_iff]
    simp
  · rw [decode_select_one_error_iff]
    simp

/-- Settles O12: each word is decoded as written. -/
theorem writtenOutWordsDecode : Obligations.WrittenOutWordsDecode := by
  unfold Obligations.WrittenOutWordsDecode
  decide

/-- Settles O13: each line is assembled as written. -/
theorem assemblySymbolsAreNumerals : Obligations.AssemblySymbolsAreNumerals := by
  unfold Obligations.AssemblySymbolsAreNumerals
  decide

end

section
/-! PROOF. `ENCODE` and its rows, state by state (spec/40_encoder.md R100 to R105, R22, R45): what an issue leaves for
each answer of its checks and of the channel, and that the decoder's side of the state is none of it. -/

namespace Sys2Proof.Machine

variable {s t : State} {c : Command}

/-! ### The next state, case by case (R100 to R105) -/

theorem encodeOp_of_violation {e : OpError} (hs : Ready s) (he : checkCommand s.config c = some e) :
    encodeOp c s = .next (raiseEncoder e (issueCommand c s)) := by
  rw [encodeOp, whenReady_of_ready hs, he]

theorem encodeOp_of_nil (hs : Ready s) (hc : LegalCommand s.config c) (hw : s.writeAnswers = []) :
    encodeOp c s = .next (startWrite (requestFrame c) (issueCommand c s)) := by
  rw [encodeOp_eq_of_legal hs hc]
  exact awaitWrite_of_nil hw

theorem encodeOp_of_cons {a : WriteAnswer} {rest : List WriteAnswer} (hs : Ready s) (hc : LegalCommand s.config c)
    (hw : s.writeAnswers = a :: rest) :
    encodeOp c s =
      finishWrite a { startWrite (requestFrame c) (issueCommand c s) with writeAnswers := rest } := by
  rw [encodeOp_eq_of_legal hs hc]
  exact awaitWrite_of_cons hw

theorem encodeOp_of_ok {rest : List WriteAnswer} (hs : Ready s) (hc : LegalCommand s.config c)
    (hw : s.writeAnswers = .ok :: rest) :
    encodeOp c s = .next (returnEncoder (requestFrame c) (transmit (requestFrame c)
      { startWrite (requestFrame c) (issueCommand c s) with writeAnswers := rest })) :=
  (encodeOp_of_cons hs hc hw).trans (finishWrite_of_txf rfl .ok)

theorem encodeOp_of_err {e : ChanErr} {n : Nat} {rest : List WriteAnswer} (hs : Ready s)
    (hc : LegalCommand s.config c) (hw : s.writeAnswers = .err e n :: rest) :
    encodeOp c s = .next (raiseEncoder (.ioError (.writeFailed e)) (transmit ((requestFrame c).take n)
      { startWrite (requestFrame c) (issueCommand c s) with writeAnswers := rest })) :=
  (encodeOp_of_cons hs hc hw).trans (finishWrite_of_txf rfl (.err e n))

/-- These are all the cases: a violation, a write that waits, and a write that ended in one of two ways. -/
theorem encodeOp_next_cases (h : encodeOp c s = .next t) :
    (∃ e, checkCommand s.config c = some e ∧ t = raiseEncoder e (issueCommand c s)) ∨
      LegalCommand s.config c ∧
        ((s.writeAnswers = [] ∧ t = startWrite (requestFrame c) (issueCommand c s)) ∨
          (∃ rest, s.writeAnswers = .ok :: rest ∧
            t = returnEncoder (requestFrame c) (transmit (requestFrame c)
              { startWrite (requestFrame c) (issueCommand c s) with writeAnswers := rest })) ∨
          ∃ e n rest, s.writeAnswers = .err e n :: rest ∧
            t = raiseEncoder (.ioError (.writeFailed e)) (transmit ((requestFrame c).take n)
              { startWrite (requestFrame c) (issueCommand c s) with writeAnswers := rest })) := by
  obtain ⟨hs, he | ⟨hnone, -⟩⟩ := encodeOp_next h
  · exact .inl he
  · have hc := (checkCommand_eq_none_iff s.config c).1 hnone
    refine .inr ⟨hc, ?_⟩
    match hw : s.writeAnswers with
    | [] =>
      cases h.symm.trans (encodeOp_of_nil hs hc hw)
      exact .inl ⟨rfl, rfl⟩
    | .ok :: rest =>
      cases h.symm.trans (encodeOp_of_ok hs hc hw)
      exact .inr (.inl ⟨rest, rfl, rfl⟩)
    | .err e n :: rest =>
      cases h.symm.trans (encodeOp_of_err hs hc hw)
      exact .inr (.inr ⟨e, n, rest, rfl, rfl⟩)

/-! ### The frame of `ENCODE` (R22, R36, R45) -/

/-- What no `ENCODE` writes: the decoder's registers, the configuration, the attachment, the read side and the
inputs. -/
structure DecoderUnchanged (s t : State) : Prop where
  config : t.config = s.config
  rxf : t.rxf = s.rxf
  rxlen : t.rxlen = s.rxlen
  decPhase : t.decPhase = s.decPhase
  res : t.res = s.res
  decOut : t.decOut = s.decOut
  attached : t.attached = s.attached
  rxTaken : t.rxTaken = s.rxTaken
  readAnswers : t.readAnswers = s.readAnswers
  inputs : t.inputs = s.inputs

theorem encodeOp_decoderUnchanged (h : encodeOp c s = .next t) : DecoderUnchanged s t ∧ t.cmd = some c := by
  obtain ⟨_, -, rfl⟩ | ⟨-, ⟨-, rfl⟩ | ⟨_, -, rfl⟩ | ⟨_, _, _, -, rfl⟩⟩ := encodeOp_next_cases h <;>
    exact ⟨⟨rfl, rfl, rfl, rfl, rfl, rfl, rfl, rfl, rfl, rfl⟩, rfl⟩

end Sys2Proof.Machine

open Sys2Proof Sys2Proof.Machine

/-- Settles O14: the write of legal operands ends with the answer at hand. -/
theorem encodeWritesItsFrameAndReturnsOk : Obligations.EncodeWritesItsFrameAndReturnsOk :=
  fun _ _ _ _ _ _ _ hs hc hw => encodeOp_of_ok hs hc hw

/-- Settles O15: the write of legal operands ends with the channel's error, unchanged. -/
theorem encodeRaisesWriteFailedUnchanged : Obligations.EncodeRaisesWriteFailedUnchanged :=
  fun _ _ _ _ _ _ _ _ _ hs hc hw => encodeOp_of_err hs hc hw

/-- Settles O16: with no answer at hand the operation stands where its write began. -/
theorem encodeWaitsInWriting : Obligations.EncodeWaitsInWriting :=
  fun _ _ _ _ _ _ hs hc hw => encodeOp_of_nil hs hc hw

/-- Settles O17: the checks before the failing one pass, so it is the one whose violation is raised. -/
theorem encodeReportsFirstFailingCheck : Obligations.EncodeReportsFirstFailingCheck := by
  intro s a i t m v hs violates u8 listed enum
  have raises {fld : Field} {offered : Int} {why : Reason}
      (h : checkCommand s.config ⟨a, i, t, m, v⟩ = some (.contractViolation fld offered why)) :
      violates fld offered why := encodeOp_of_violation hs h
  have hu8 (x : Int) : inU8 x = true ↔ u8 x := inU8_iff x
  have henum : enumerated s.config i = true ↔ enum := by
    rw [enumerated_iff]
    cases hstrict : s.config.strictInstruction <;> simp [enum, listed, hstrict]
  simp only [← hu8, ← henum, ← inI32_iff]
  refine ⟨fun ha => raises ?_, fun ha hi => raises ?_, fun ha hi he => raises ?_, fun ha hi he ht => raises ?_,
    fun ha hi he ht hm => raises ?_, fun ha hi he ht hm hv => raises ?_⟩ <;> simp [checkCommand, *]

/-- Settles O22: each row is `ENCODE` of its numeral, which passes in either mode. -/
theorem opcodeRowsWriteTheirFrame : Obligations.OpcodeRowsWriteTheirFrame := by
  intro row hrow s a t m v rest hs ha ha' ht ht' hm hm' hv hv' hw
  obtain ⟨hcmd, hi, hmem⟩ : commandOf (row.1 a t m v) = some ⟨a, row.2, t, m, v⟩ ∧
      (0 ≤ row.2 ∧ row.2 ≤ 255) ∧ row.2 ∈
        [1, 2, 3, 4, 5, 6, 7, 8, 9, 10, 11, 12, 13, 14, 15, 30, 31, 32, 128, 129, 131] := by
    fin_cases hrow <;> exact ⟨rfl, by decide⟩
  rw [exec_eq_shared, hcmd]
  exact encodeOp_of_ok hs ⟨⟨ha, ha'⟩, hi, ⟨ht, ht'⟩, ⟨hm, hm'⟩, ⟨hv, hv'⟩, fun _ => hmem⟩ hw

/-- Settles O23: each row is `ENCODE` of its two numerals, which pass in either mode. -/
theorem subOptionRowsWriteTheirFrame : Obligations.SubOptionRowsWriteTheirFrame := by
  intro row hrow s a m v rest hs ha ha' hm hm' hv hv' hw
  obtain ⟨hcmd, hi, ht, hmem⟩ : commandOf (row.1 a m v) = some ⟨a, row.2.1, row.2.2, m, v⟩ ∧
      (0 ≤ row.2.1 ∧ row.2.1 ≤ 255) ∧ (0 ≤ row.2.2 ∧ row.2.2 ≤ 255) ∧ row.2.1 ∈
        [1, 2, 3, 4, 5, 6, 7, 8, 9, 10, 11, 12, 13, 14, 15, 30, 31, 32, 128, 129, 131] := by
    fin_cases hrow <;> exact ⟨rfl, by decide⟩
  rw [exec_eq_shared, hcmd]
  exact encodeOp_of_ok hs ⟨⟨ha, ha'⟩, hi, ht, ⟨hm, hm'⟩, ⟨hv, hv'⟩, fun _ => hmem⟩ hw

/-- Settles O24: each of the four next states of an issue is an update of the encoder's side alone. -/
theorem encodeRowsLeaveTheDecoderUnchanged : Obligations.EncodeRowsLeaveTheDecoderUnchanged := by
  intro i c s t hi h
  rw [exec_eq_shared, hi] at h
  obtain ⟨⟨h1, h2, h3, h4, h5, h6, h7, h8, h9, h10⟩, hcmd⟩ := encodeOp_decoderUnchanged h
  refine ⟨h1, h2, h3, h4, h5, h6, h7, h8, h9, h10, hcmd, ?_⟩
  obtain ⟨e, he, rfl⟩ | ⟨hc, hw⟩ := encodeOp_next_cases h
  · have hc : ¬LegalCommand s.config c := by simp [← checkCommand_eq_none_iff, he]
    exact ⟨fun hc' => absurd hc' hc, fun _ => ⟨rfl, rfl, rfl, rfl, rfl⟩⟩
  · refine ⟨fun _ => ?_, fun hc' => absurd hc hc'⟩
    obtain ⟨hw, rfl⟩ | ⟨rest, hw, rfl⟩ | ⟨e, n, rest, hw, rfl⟩ := hw <;> simp [hw]

/-- Settles O21: each row is `encodeOp` of a command with the numerals of its opcode and type. -/
theorem namedRowsAreEncodeOfTheirNumerals : Obligations.NamedRowsAreEncodeOfTheirNumerals := by
  refine ⟨rfl, fun s a t m v => ?_⟩
  and_intros <;> rfl

/-- Settles O44: the waiting write and the write with the answer at hand end from the same state. -/
theorem lateWriteAnswerEndsTheOperationAlike : Obligations.LateWriteAnswerEndsTheOperationAlike := by
  intro i c s a rest hi hc hs hw
  have hexec (s : State) : exec i s = encodeOp c s := by rw [exec_eq_shared, hi]
  refine ⟨startWrite (requestFrame c) (issueCommand c s), by rw [hexec, encodeOp_of_nil hs hc hw], rfl, ?_⟩
  rw [hexec, encodeOp_of_cons (s := { s with writeAnswers := [a], inputs := rest }) hs hc rfl]
  change finishWrite a { startWrite (requestFrame c) (issueCommand c s) with inputs := rest } = _
  congr 1
  simp [startWrite, issueCommand, hw]

end

section
/-! PROOF. `DECODE` and its status rows, state by state (spec/41_decoder.md R120 to R132, R36, R46): what the issue
leaves for each answer of the channel, and that the encoder's side of the state is none of it. -/

namespace Sys2Proof.Machine

variable {s t : State}

/-! ### The next state, case by case (R120, R121) -/

theorem exec_decode_of_nil (hs : Ready s) (hr : s.readAnswers = []) : exec .decode s = .next (startRead s) := by
  change decodeOp none s = _
  rw [decodeOp, whenReady_of_ready hs]
  exact awaitRead_of_nil (s := startRead s) hr

theorem exec_decode_of_error {f : Bytes} {e : OpError} {rest : List ReadAnswer} (hs : Ready s)
    (hr : s.readAnswers = .bytes f :: rest) (he : replyOutcome s.config f = .error e) :
    exec .decode s = .next (raiseDecoder e (receive f { startRead s with readAnswers := rest })) := by
  rw [exec_decode_of_cons hs hr]
  simp [finishRead, he]

/-- A status row ends its read with the frame it is given (log 12). -/
theorem exec_of_replyOf {i : Instr} {r : Reply} (hi : replyOf i = some r) (hs : Ready s) :
    exec i s = .next (finishRead (.bytes (replyFrame r)) (startRead s)) := by
  have hrow : exec i s = decodeOp (some (.bytes (replyFrame r))) s := by cases i <;> cases hi <;> rfl
  rw [hrow, decodeOp, whenReady_of_ready hs]

theorem exec_row_of_ok {i : Instr} {r : Reply} {res : Result} (hi : replyOf i = some r) (hs : Ready s)
    (hok : replyOutcome s.config (replyFrame r) = .ok res) :
    exec i s = .next (returnDecoder res (receive (replyFrame r) (startRead s))) := by
  rw [exec_of_replyOf hi hs]
  simp [finishRead, hok]

theorem exec_row_of_error {i : Instr} {r : Reply} {e : OpError} (hi : replyOf i = some r) (hs : Ready s)
    (he : replyOutcome s.config (replyFrame r) = .error e) :
    exec i s = .next (raiseDecoder e (receive (replyFrame r) (startRead s))) := by
  rw [exec_of_replyOf hi hs]
  simp [finishRead, he]

/-! ### The outcome of a reply frame (R121 to R128) -/

theorem statusOutcome_of_successStored (cfg : Config) {r : Reply} (h : statusClass r.status = .successStored) :
    statusOutcome cfg r = .ok (resultOf r) := by
  simp [statusOutcome, h]

theorem statusClass_of_listed_unknown {b : Byte} (h : b.toNat ∉ [100, 101, 1, 2, 3, 4, 5, 6]) :
    statusClass b = .unknown :=
  (statusClass_eq_unknown_iff b).2 fun hb => h (by simp at hb ⊢; tauto)

theorem replyOutcome_nine_of_checksum_ne (cfg : Config) {b0 b1 b2 b3 b4 b5 b6 b7 b8 : Byte}
    (h : b8 ≠ checksum8 [b0, b1, b2, b3, b4, b5, b6, b7]) :
    replyOutcome cfg [b0, b1, b2, b3, b4, b5, b6, b7, b8] =
      .error (.checksumError b8 (checksum8 [b0, b1, b2, b3, b4, b5, b6, b7])) := if_pos h

/-- A reply frame that carries another checksum than its payload's (R123). -/
theorem replyOutcome_replyFrame_of_checksum_ne (cfg : Config) {r : Reply}
    (h : r.checksum ≠ checksum8 ((replyFrame r).take 8)) :
    replyOutcome cfg (replyFrame r) = .error (.checksumError r.checksum (checksum8 ((replyFrame r).take 8))) := by
  obtain ⟨w, hparse, -⟩ := parseReply_replyFrame r
  rw [replyOutcome, hparse]
  exact if_pos h

/-- A reply frame with its payload's checksum goes to the status check, its value read modulo 2^32 (R67, R128). -/
theorem replyOutcome_replyFrame (cfg : Config) {r : Reply} (h : r.checksum = checksum8 ((replyFrame r).take 8)) :
    ∃ w, replyOutcome cfg (replyFrame r) = statusOutcome cfg { r with value := w } ∧
      (-2147483648 ≤ r.value ∧ r.value ≤ 2147483647 → w = r.value) := by
  obtain ⟨w, hparse, hw⟩ := parseReply_replyFrame r
  refine ⟨w, ?_, hw⟩
  rw [replyOutcome, hparse]
  exact if_neg (not_not_intro h)

theorem replyOutcome_replyFrame_of_i32 (cfg : Config) {r : Reply}
    (h : r.checksum = checksum8 ((replyFrame r).take 8)) (hv : -2147483648 ≤ r.value ∧ r.value ≤ 2147483647) :
    replyOutcome cfg (replyFrame r) = statusOutcome cfg r := by
  obtain ⟨w, hout, hw⟩ := replyOutcome_replyFrame cfg h
  rw [hout, hw hv]

/-! ### The frame of `DECODE` (R36, R46) -/

/-- What no `DECODE` writes: the encoder's registers, the configuration, the attachment, the write side and the
inputs. -/
structure EncoderUnchanged (s t : State) : Prop where
  config : t.config = s.config
  cmd : t.cmd = s.cmd
  txf : t.txf = s.txf
  encPhase : t.encPhase = s.encPhase
  encOut : t.encOut = s.encOut
  attached : t.attached = s.attached
  txStream : t.txStream = s.txStream
  writeAnswers : t.writeAnswers = s.writeAnswers
  inputs : t.inputs = s.inputs

/-- The end of a read adds nothing to what the read has changed so far. -/
theorem finishRead_encoderUnchanged {s₀ : State} (a : ReadAnswer) (hs : EncoderUnchanged s₀ s) :
    EncoderUnchanged s₀ (finishRead a s) := by
  obtain ⟨h1, h2, h3, h4, h5, h6, h7, h8, h9⟩ := hs
  obtain ⟨_, -, h⟩ | ⟨_, _, -, -, h⟩ | ⟨_, _, -, -, h⟩ := finishRead_cases (s := s) a <;> rw [h] <;>
    exact ⟨h1, h2, h3, h4, h5, h6, h7, h8, h9⟩

/-- What a read leaves on the decoder's side, ended or waiting, when its buffers were cleared at its issue: they hold
what was consumed, and `RES` a value only after `VALIDATED`. -/
structure ReadLeft (taken : Bytes) (t : State) : Prop where
  rxlen : t.rxlen = t.rxf.map List.length
  rxTaken : t.rxTaken = taken ++ t.rxf.getD []
  res : t.decPhase ≠ .validated → t.res = none

theorem startRead_readLeft (s : State) : ReadLeft s.rxTaken (startRead s) :=
  ⟨rfl, (List.append_nil _).symm, fun _ => rfl⟩

theorem finishRead_readLeft (a : ReadAnswer) (hrxf : s.rxf = none) (hrxlen : s.rxlen = none) (hres : s.res = none) :
    ReadLeft s.rxTaken (finishRead a s) := by
  obtain ⟨_, -, h⟩ | ⟨_, _, -, -, h⟩ | ⟨_, _, -, -, h⟩ := finishRead_cases (s := s) a <;> rw [h]
  · exact ⟨by simp [hrxf, hrxlen], by simp [hrxf], fun _ => hres⟩
  · exact ⟨rfl, rfl, fun hne => absurd rfl hne⟩
  · exact ⟨rfl, rfl, fun _ => hres⟩

theorem finishRead_readAnswers (a : ReadAnswer) (s : State) : (finishRead a s).readAnswers = s.readAnswers := by
  obtain ⟨_, -, h⟩ | ⟨_, _, -, -, h⟩ | ⟨_, _, -, -, h⟩ := finishRead_cases (s := s) a <;> rw [h] <;> rfl

/-- A `DECODE` that answers a next state ended its read with a given or a queued answer, or waits. -/
theorem decodeOp_next_cases {d : Option ReadAnswer} (h : decodeOp d s = .next t) :
    (∃ a, d = some a ∧ t = finishRead a (startRead s)) ∨
      (d = none ∧ s.readAnswers = [] ∧ t = startRead s) ∨
      ∃ a rest, d = none ∧ s.readAnswers = a :: rest ∧
        t = finishRead a { startRead s with readAnswers := rest } := by
  obtain ⟨-, hd | ⟨rfl, hwait⟩⟩ := decodeOp_next h
  · exact .inl hd
  · obtain ⟨hr, hnext⟩ | ⟨a, rest, hr, hnext⟩ := awaitRead_cases (s := startRead s) <;>
      cases hwait.symm.trans hnext
    · exact .inr (.inl ⟨rfl, hr, rfl⟩)
    · exact .inr (.inr ⟨a, rest, rfl, hr, rfl⟩)

/-- The frame of `decodeOp` in one statement: the encoder's side, the one access, and what the read leaves. -/
theorem decodeOp_frame {d : Option ReadAnswer} (h : decodeOp d s = .next t) :
    EncoderUnchanged s t ∧ t.calls = s.calls ++ [.read 9] ∧ ReadLeft s.rxTaken t := by
  obtain ⟨a, -, rfl⟩ | ⟨-, -, rfl⟩ | ⟨a, rest, -, -, rfl⟩ := decodeOp_next_cases h
  · exact ⟨finishRead_encoderUnchanged a ⟨rfl, rfl, rfl, rfl, rfl, rfl, rfl, rfl, rfl⟩, finishRead_calls a _,
      finishRead_readLeft (s := startRead s) a rfl rfl rfl⟩
  · exact ⟨⟨rfl, rfl, rfl, rfl, rfl, rfl, rfl, rfl, rfl⟩, rfl, startRead_readLeft s⟩
  · exact ⟨finishRead_encoderUnchanged a ⟨rfl, rfl, rfl, rfl, rfl, rfl, rfl, rfl, rfl⟩, finishRead_calls a _,
      finishRead_readLeft (s := { startRead s with readAnswers := rest }) a rfl rfl rfl⟩

/-- `DECODE` takes the next queued answer, and a status row, which brings its own, takes none (log 12). -/
theorem decodeOp_readAnswers {d : Option ReadAnswer} (h : decodeOp d s = .next t) :
    t.readAnswers = if d = none then s.readAnswers.tail else s.readAnswers := by
  obtain ⟨a, rfl, rfl⟩ | ⟨rfl, hr, rfl⟩ | ⟨a, rest, rfl, hr, rfl⟩ := decodeOp_next_cases h
  · exact finishRead_readAnswers a _
  · simp [hr]
  · rw [finishRead_readAnswers, hr]
    rfl

theorem replyOf_eq_none_iff_of_decode {i : Instr} (hi : commandOf i = none) : replyOf i = none ↔ i = .decode := by
  cases i <;> simp_all [replyOf, commandOf]

end Sys2Proof.Machine

open Sys2Proof Sys2Proof.Machine

/-- Settles O26: the read ends with the frame at hand, which passes the checksum, and status 101 returns its
fields. -/
theorem decodeOfStatus101ReturnsStoredResult : Obligations.DecodeOfStatus101ReturnsStoredResult :=
  fun s _ _ _ _ _ _ _ _ _ hs hr hsum => exec_decode_of_ok hs hr
    ((replyOutcome_nine_of_checksum s.config hsum).trans (statusOutcome_of_successStored s.config rfl))

/-- Settles O27: past the checksum the status is one of the mapped failures, and its message is the table's. -/
theorem decodeOfMappedStatusRaisesProtocolError : Obligations.DecodeOfMappedStatusRaisesProtocolError := by
  intro row hrow s b0 b1 b3 b4 b5 b6 b7 b8 rest hs hr hsum
  obtain ⟨hclass, hmessage⟩ : statusClass row.1 = .mappedError ∧ statusMessage row.1 = some row.2 := by
    fin_cases hrow <;> exact ⟨rfl, rfl⟩
  exact exec_decode_of_error hs hr ((replyOutcome_nine_of_checksum s.config hsum).trans
    (statusOutcome_of_mapped s.config rfl hclass hmessage))

/-- Settles O28: past the checksum the status is unknown, and its code is raised as it came. -/
theorem decodeOfUnknownStatusKeepsTheCode : Obligations.DecodeOfUnknownStatusKeepsTheCode :=
  fun s _ _ _ _ _ _ _ _ _ _ hs hunknown hr hsum => exec_decode_of_error hs hr
    ((replyOutcome_nine_of_checksum s.config hsum).trans
      (statusOutcome_of_unknown s.config (statusClass_of_listed_unknown hunknown)))

/-- Settles O29: the checksum is compared before the status is looked at. -/
theorem decodeChecksTheChecksumBeforeTheStatus : Obligations.DecodeChecksTheChecksumBeforeTheStatus :=
  fun s _ _ _ _ _ _ _ _ _ _ hs hr hsum =>
    exec_decode_of_error hs hr (replyOutcome_nine_of_checksum_ne s.config hsum)

/-- Settles O30: a failed read ends before any byte is looked at, and a length other than 9 before any is parsed. -/
theorem decodeOfWrongLengthOrFailedReadRaisesIOError :
    Obligations.DecodeOfWrongLengthOrFailedReadRaisesIOError := by
  refine fun s rest hs => ⟨fun e hr => exec_decode_of_cons hs hr, fun b hr hlen => ?_, fun b hr hlen => ?_⟩
  · have he : replyOutcome s.config b = .error (.ioError (.shortRead b.length)) := by
      rw [replyOutcome_of_length_ne (by omega), lengthError, if_pos hlen]
    exact exec_decode_of_error hs hr he
  · have he : replyOutcome s.config b = .error (.ioError (.lengthMismatch b.length)) := by
      rw [replyOutcome_of_length_ne (by omega), lengthError, if_neg (by omega)]
    exact exec_decode_of_error hs hr he

/-- Settles O31: with no answer at hand the operation stands where its read began. -/
theorem decodeWaitsInAwait : Obligations.DecodeWaitsInAwait :=
  fun _ hs hr => exec_decode_of_nil hs hr

/-- Settles O32: the frame carries its payload's checksum and a value of `i32`, so its own fields reach the status
check. -/
theorem successRowsReturnTheirFields : Obligations.SuccessRowsReturnTheirFields := by
  refine fun s r m e v hs hlo hhi => ⟨?_, ?_⟩
  · exact exec_row_of_ok rfl hs ((replyOutcome_replyFrame_of_i32 s.config rfl ⟨hlo, hhi⟩).trans
      (statusOutcome_of_success s.config rfl))
  · exact exec_row_of_ok rfl hs ((replyOutcome_replyFrame_of_i32 s.config rfl ⟨hlo, hhi⟩).trans
      (statusOutcome_of_successStored s.config rfl))

/-- Settles O33: the message depends on the status alone, so the value of the frame need not be in range. -/
theorem mappedFailureRowsRaiseTheirMessage : Obligations.MappedFailureRowsRaiseTheirMessage := by
  intro row hrow s r m e v hs
  obtain ⟨hreply, hclass, hmessage⟩ :
      (∀ c, replyOf (row.1 r m e v c) = some ⟨r, m, row.2.1, e, v, c⟩) ∧
        statusClass row.2.1 = .mappedError ∧ statusMessage row.2.1 = some row.2.2 := by
    fin_cases hrow <;> exact ⟨fun _ => rfl, rfl, rfl⟩
  obtain ⟨w, hout, -⟩ := replyOutcome_replyFrame s.config
    (r := ⟨r, m, row.2.1, e, v, checksum8 (framePayload r m row.2.1 e v)⟩) rfl
  exact exec_row_of_error (hreply _) hs (hout.trans (statusOutcome_of_mapped s.config rfl hclass hmessage))

/-- Settles O34: the frame passes the checksum, and an unknown status raises its code. -/
theorem unknownStatusRowKeepsTheCode : Obligations.UnknownStatusRowKeepsTheCode := by
  intro s r m st e v hs hunknown
  obtain ⟨w, hout, -⟩ := replyOutcome_replyFrame s.config
    (r := ⟨r, m, st, e, v, checksum8 (framePayload r m st e v)⟩) rfl
  exact exec_row_of_error rfl hs
    (hout.trans (statusOutcome_of_unknown s.config (statusClass_of_listed_unknown hunknown)))

/-- Settles O35: the checksum byte of the row is compared with the payload's before the status. -/
theorem statusRowsWithBadChecksumRaiseChecksumError : Obligations.StatusRowsWithBadChecksumRaiseChecksumError :=
  fun _ _ s hi hs hsum =>
    ⟨_, exec_row_of_error hi hs (replyOutcome_replyFrame_of_checksum_ne s.config hsum), rfl, rfl, rfl, rfl⟩

/-- Settles O36: every `DECODE` row is one `decodeOp`, whose read is the only access. -/
theorem decodeRowsLeaveTheEncoderUnchanged : Obligations.DecodeRowsLeaveTheEncoderUnchanged := by
  intro i s t hi h
  rw [exec_eq_shared, hi] at h
  obtain ⟨⟨h1, h2, h3, h4, h5, h6, h7, h8, h9⟩, hcalls, hrxlen, htaken, hres⟩ := decodeOp_frame h
  have hanswers := decodeOp_readAnswers h
  simp only [Option.map_eq_none_iff, replyOf_eq_none_iff_of_decode hi] at hanswers
  exact ⟨h1, h2, h3, h4, h5, h6, h7, h8, h9, hcalls, hrxlen, htaken, hres,
    fun hd => by rw [hanswers, if_pos hd], fun hd => by rw [hanswers, if_neg hd]⟩

/-- Settles O45: the waiting read and the read with the answer at hand end from the same state. -/
theorem lateReadAnswerEndsTheOperationAlike : Obligations.LateReadAnswerEndsTheOperationAlike := by
  intro s a rest hs hr
  refine ⟨startRead s, exec_decode_of_nil hs hr, rfl, ?_⟩
  rw [exec_decode_of_cons (s := { s with readAnswers := [a], inputs := rest }) hs rfl]
  change Host.Outcome.next (finishRead a { startRead s with inputs := rest }) = _
  congr 2
  simp [startRead, hr]

end

section
/-! PROOF. What the checksum sees (spec/41_decoder.md R134, R135): a sum of bytes modulo 256 changes with any one
byte, and not with the order of the bytes; a delivered request frame carries it and decodes to its operands. -/

namespace Sys2Proof.Machine

/-! ### One changed byte (R134) -/

theorem byteSum_modify {p : Bytes} {k : Nat} {b : Byte} (g : Byte → Byte) (h : p[k]? = some b) :
    byteSum (p.modify k g) + b.toNat = byteSum p + (g b).toNat := by
  induction p generalizing k with
  | nil => simp at h
  | cons c p ih =>
    cases k with
    | zero =>
      cases Option.some.inj h
      simp only [List.modify_zero_cons, byteSum_cons]
      omega
    | succ k =>
      have hp := ih h
      simp only [List.modify_succ_cons, byteSum_cons]
      omega

theorem wellChecksummed_iff_of_getElem? {f : Bytes} {c : Byte} (hlen : f.length = 9) (hc : f[8]? = some c) :
    wellChecksummed f = true ↔ c.toNat = byteSum (f.take 8) % 256 := by
  rw [wellChecksummed, decide_eq_true_iff, hc, Option.some_inj, eq_checksum8_iff]
  exact and_iff_right hlen

/-- Two different bytes differ by less than 256, so the sum and the checksum byte cannot both stay in step. -/
theorem wellChecksummed_modify {f : Bytes} {k : Nat} {b : Byte} {g : Byte → Byte} (hf : SoundFrame f)
    (hb : f[k]? = some b) (hg : g b ≠ b) : wellChecksummed (f.modify k g) = false := by
  obtain ⟨hlen, hsum⟩ := hf
  obtain ⟨c, hc⟩ : ∃ c, f[8]? = some c := ⟨f[8], List.getElem?_eq_getElem (by omega)⟩
  rw [wellChecksummed_iff_of_getElem? hlen hc] at hsum
  have hne : (g b).toNat ≠ b.toNat := mt BitVec.eq_of_toNat_eq hg
  have hlt := b.isLt
  have hlt' := (g b).isLt
  have hlast : (f.modify k g)[8]? = some (if k = 8 then g c else c) := by rw [List.getElem?_modify, hc]; rfl
  rw [← Bool.not_eq_true, wellChecksummed_iff_of_getElem? ((List.length_modify ..).trans hlen) hlast,
    List.take_modify]
  by_cases hk : k = 8
  · subst hk
    cases hb.symm.trans hc
    rw [if_pos rfl, List.modify_eq_self (by simp), ← hsum]
    exact hne
  · obtain ⟨hk9, -⟩ := List.getElem?_eq_some_iff.1 hb
    have hk8 : k < 8 := by omega
    have hmod := byteSum_modify g ((List.getElem?_take_of_lt hk8).trans hb)
    rw [if_neg hk]
    omega

/-- Flipping a bit changes a byte. -/
theorem xor_bit_ne {j : Nat} (hj : j < 8) (b : Byte) : b ^^^ (1#8 <<< j) ≠ b := by
  have hbit : ∀ j < 8, 1#8 <<< j ≠ 0#8 := by decide
  exact fun h => hbit j hj ((BitVec.xor_right_inj b).1 (h.trans BitVec.xor_zero.symm))

/-- A `ChecksumError` reports two bytes that differ (R123, R163). -/
theorem replyOutcome_of_checksum_mismatch (cfg : Config) {f : Bytes} (hlen : f.length = 9)
    (h : wellChecksummed f = false) :
    ∃ received computed, received ≠ computed ∧
      replyOutcome cfg f = .error (.checksumError received computed) := by
  obtain ⟨b0, b1, b2, b3, b4, b5, b6, b7, b8, rfl⟩ := eq_nine_of_length hlen
  have hne : b8 ≠ checksum8 [b0, b1, b2, b3, b4, b5, b6, b7] := by
    rw [Ne, ← wellChecksummed_nine_iff, h]
    simp
  exact ⟨_, _, hne, replyOutcome_nine_of_checksum_ne cfg hne⟩

/-! ### Reordered bytes (R134) -/

theorem byteSum_perm {p q : Bytes} (h : p.Perm q) : byteSum p = byteSum q := (h.map BitVec.toNat).sum_eq

theorem wellChecksummed_append_iff {p : Bytes} (c : Byte) (hlen : p.length = 8) :
    wellChecksummed (p ++ [c]) = true ↔ c = checksum8 p := by
  rw [wellChecksummed_iff_of_getElem? (c := c) (by simp [hlen]) (by simp [← hlen]), List.take_left' hlen,
    eq_checksum8_iff]

end Sys2Proof.Machine

open Sys2Proof Sys2Proof.Machine

/-- Settles O37: a flipped bit changes one byte, which the checksum sees, the checksum byte itself included. -/
theorem singleBitFlipIsDetected : Obligations.SingleBitFlipIsDetected := by
  intro f k j s rest hf hk hj hs hr
  obtain ⟨b, hb⟩ : ∃ b, f[k]? = some b := ⟨f[k]'(by rw [hf.1]; exact hk), List.getElem?_eq_getElem _⟩
  have hflip := wellChecksummed_modify (g := fun b => b ^^^ (1#8 <<< j)) hf hb (xor_bit_ne hj b)
  obtain ⟨received, computed, hne, hout⟩ := replyOutcome_of_checksum_mismatch s.config
    ((List.length_modify ..).trans hf.1) hflip
  exact ⟨_, received, computed, exec_decode_of_error hs hr hout, hne, rfl, rfl⟩

/-- Settles O38: the sum of the bytes does not depend on their order. -/
theorem reorderingOfPayloadIsNotDetected : Obligations.ReorderingOfPayloadIsNotDetected := by
  intro p q c hlen hperm
  rw [wellChecksummed_append_iff c hlen, wellChecksummed_append_iff c (hperm.length_eq ▸ hlen), eq_checksum8_iff,
    eq_checksum8_iff, byteSum_perm hperm]

/-- Settles O39: the request frame is the reply frame of its operands' bytes, and these have the operands' values. -/
theorem deliveredRequestFrameDecodesToItsFields : Obligations.DeliveredRequestFrameDecodesToItsFields := by
  intro s r m st e v rest hs hr hr' hm hm' hst he he' hv hv' hread
  have hstatus : ((u8 st).toNat : Int) = st := u8_toNat (by omega)
  have hclass : statusClass (echoReply ⟨r, m, st, e, v⟩).status = .success ∨
      statusClass (echoReply ⟨r, m, st, e, v⟩).status = .successStored := by
    obtain rfl | rfl := hst
    · exact .inl rfl
    · exact .inr rfl
  have hout : replyOutcome s.config (requestFrame ⟨r, m, st, e, v⟩) =
      .ok (resultOf (echoReply ⟨r, m, st, e, v⟩)) := by
    rw [requestFrame_eq_replyFrame, replyOutcome_replyFrame_of_i32 s.config rfl ⟨hv, hv'⟩]
    exact hclass.elim (statusOutcome_of_success s.config) (statusOutcome_of_successStored s.config)
  refine ⟨_, _, exec_decode_of_ok hs hread hout, rfl, rfl, rfl, u8_toNat ⟨hr, hr'⟩, u8_toNat ⟨hm, hm'⟩,
    hstatus, u8_toNat ⟨he, he'⟩, rfl, ?_⟩
  change decide ((u8 st).toNat = 101) = true ↔ st = 101
  rw [decide_eq_true_iff]
  omega

end

section
/-! PROOF. When an operation runs, and the inputs that are no operation (spec/70_reset_and_hazards.md R200 to R203,
10_state.md R28, R34, R35, R47, 60_exceptions.md): refusals, resets, the attachment, readers and codes. -/

namespace Sys2Proof.Machine

variable {s s₁ s₂ t t₁ t₂ : State}

/-! ### Readiness (R202, R203) -/

theorem exec_eq_whenReady (i : Instr) (s : State) : ∃ run, exec i s = whenReady s run := by
  rw [exec_eq_shared]
  cases commandOf i with
  | some c => exact ⟨_, rfl⟩
  | none => exact ⟨_, rfl⟩

theorem whenReady_of_busy {run : State → StepResult} (h : s.encPhase = .writing ∨ s.decPhase = .await) :
    whenReady s run = .refused .overlap := by
  have hb : s.busy = true := by simpa [State.busy] using h
  rw [whenReady, if_pos hb]

theorem whenReady_of_unattached {run : State → StepResult} (he : s.encPhase ≠ .writing)
    (hd : s.decPhase ≠ .await) (ha : s.attached = false) : whenReady s run = .refused .noChannel := by
  simp [whenReady, (busy_eq_false_iff s).2 ⟨he, hd⟩, ha]

/-- An operation that does not run is refused: it never faults. -/
theorem whenReady_of_not_ready {run : State → StepResult} (h : ¬Ready s) : ∃ r, whenReady s run = .refused r := by
  by_cases hb : s.encPhase = .writing ∨ s.decPhase = .await
  · exact ⟨_, whenReady_of_busy hb⟩
  · obtain ⟨he, hd⟩ := not_or.1 hb
    have ha : s.attached = false := Bool.eq_false_iff.2 fun ha => h ⟨he, hd, ha⟩
    exact ⟨_, whenReady_of_unattached he hd ha⟩

theorem exec_completes {s : State} (i : Instr) (hs : Ready s) : ∃ t, exec i s = .next t := by
  obtain ⟨t, ht, -⟩ := exec_of_ready i hs
  exact ⟨t, ht⟩

theorem exec_ne_fault (i : Instr) (s : State) (r : Fault) : exec i s ≠ .fault r := by
  by_cases hs : Ready s
  · obtain ⟨t, ht⟩ := exec_completes i hs
    simp [ht]
  · obtain ⟨run, hrun⟩ := exec_eq_whenReady i s
    obtain ⟨why, hwhy⟩ := whenReady_of_not_ready (run := run) hs
    simp [hrun, hwhy]

/-! ### One step for each kind of input -/

theorem step_of_nil (h : s.inputs = []) : step s = .next s := by simp [step, h]

theorem step_of_issue {p : Issue} {i : Instr} {rest : List Input} (h : s.inputs = .issue p :: rest)
    (hd : decode p = .ok i) : step s = exec i (dropInput rest s) := by simp [step, h, hd]

theorem step_of_rejected {p : Issue} {e : DecodeError} {rest : List Input} (h : s.inputs = .issue p :: rest)
    (hd : decode p = .error e) : step s = .refused (refusalOf e) := by simp [step, h, hd]

theorem step_of_reset {d : ResetDraw} {rest : List Input} (h : s.inputs = .reset d :: rest) :
    step s = .next (resetCodec d (dropInput rest s)) := by simp [step, h]

theorem step_of_attachChannel {rest : List Input} (h : s.inputs = .attachChannel :: rest) :
    step s = .next (attachChannel (dropInput rest s)) := by simp [step, h]

theorem run_of_no_input (h : s.inputs = []) (n : Nat) : core.run n s = .next s := by
  induction n with
  | zero => rfl
  | succ n ih =>
    have hstep : core.step s = .next s := step_of_nil h
    simp only [Host.Core.run, hstep, ih]

/-! ### The configuration (R28) -/

theorem finishWrite_decoderUnchanged {a : WriteAnswer} (h : finishWrite a s = .next t) : DecoderUnchanged s t := by
  obtain ⟨f, -, ⟨-, rfl⟩ | ⟨e, n, -, rfl⟩⟩ := finishWrite_next h <;>
    exact ⟨rfl, rfl, rfl, rfl, rfl, rfl, rfl, rfl, rfl, rfl⟩

theorem exec_config {i : Instr} (h : exec i s = .next t) : t.config = s.config := by
  rw [exec_eq_shared] at h
  cases hi : commandOf i with
  | some c =>
    rw [hi] at h
    exact (encodeOp_decoderUnchanged h).1.config
  | none =>
    rw [hi] at h
    exact (decodeOp_frame h).1.config

theorem finishRead_config (a : ReadAnswer) (s : State) : (finishRead a s).config = s.config :=
  (finishRead_encoderUnchanged (s₀ := s) a ⟨rfl, rfl, rfl, rfl, rfl, rfl, rfl, rfl, rfl⟩).config

theorem acceptWriteAnswer_config {a : WriteAnswer} (h : acceptWriteAnswer a s = .next t) : t.config = s.config := by
  unfold acceptWriteAnswer at h
  split at h
  · exact (finishWrite_decoderUnchanged h).config
  · cases h
    rfl

theorem acceptReadAnswer_config {a : ReadAnswer} (h : acceptReadAnswer a s = .next t) : t.config = s.config := by
  unfold acceptReadAnswer at h
  split at h <;> cases h
  · exact finishRead_config a s
  all_goals rfl

/-! ### Readers (R34, R40) -/

theorem readReg_of_none {α : Type} (r : Reg) {o : Option α} (h : o = none) : readReg r o = .error (.noValue r) := by
  rw [h, readReg]

theorem readReg_of_some {α : Type} (r : Reg) {o : Option α} {a : α} (h : o = some a) : readReg r o = .ok a := by
  rw [h, readReg]

theorem readTxf_of_none (k : Nat) (h : s.txf = none) : readTxf s k = .error (.noValue .txf) := by
  rw [readTxf, readReg_of_none _ h]

theorem readTxf_of_some {f : Bytes} (k : Nat) (h : s.txf = some f) : readTxf s k = framePosition .txf f k := by
  rw [readTxf, readReg_of_some _ h]

theorem readRxf_of_none (k : Nat) (h : s.rxf = none) : readRxf s k = .error (.noValue .rxf) := by
  rw [readRxf, readReg_of_none _ h]

theorem readRxf_of_some {f : Bytes} (k : Nat) (h : s.rxf = some f) : readRxf s k = framePosition .rxf f k := by
  rw [readRxf, readReg_of_some _ h]

/-- A position of the frame byte space that the buffer is long enough for. -/
theorem framePosition_of_lt_length (r : Reg) {f : Bytes} {k : Nat} (hk : k < 9) (hlen : k < f.length) :
    ∃ b, f[k]? = some b ∧ framePosition r f k = .ok b :=
  ⟨f[k], List.getElem?_eq_getElem hlen, framePosition_of_byte r hk (List.getElem?_eq_getElem hlen)⟩

/-! ### Reset (R200, R201) -/

theorem abandonedWrite_of_writing {f : Bytes} (d : ResetDraw) (h : s.encPhase = .writing) (hf : s.txf = some f) :
    abandonedWrite d s = f.take d.sent := by simp [abandonedWrite, h, hf]

theorem abandonedWrite_of_not_writing (d : ResetDraw) (h : s.encPhase ≠ .writing) : abandonedWrite d s = [] := by
  unfold abandonedWrite
  split <;> simp_all

theorem abandonedRead_of_await (d : ResetDraw) (h : s.decPhase = .await) : abandonedRead d s = d.lost := by
  simp [abandonedRead, h]

theorem abandonedRead_of_not_await (d : ResetDraw) (h : s.decPhase ≠ .await) : abandonedRead d s = [] := by
  unfold abandonedRead
  split <;> simp_all

theorem resetCodec_txStream_of_not_writing (d : ResetDraw) (h : s.encPhase ≠ .writing) :
    (resetCodec d s).txStream = s.txStream := by
  rw [resetCodec_txStream, abandonedWrite_of_not_writing d h, List.append_nil]

theorem resetCodec_rxTaken_of_not_await (d : ResetDraw) (h : s.decPhase ≠ .await) :
    (resetCodec d s).rxTaken = s.rxTaken := by
  rw [resetCodec_rxTaken, abandonedRead_of_not_await d h, List.append_nil]

/-- What `ENCODE` adds to the wire follows from its operands, the configuration and the answers at hand. -/
theorem encodeOp_txStream_congr {c : Command} (hcfg : s₁.config = s₂.config)
    (hw : s₁.writeAnswers = s₂.writeAnswers) (htx : s₁.txStream = s₂.txStream)
    (h₁ : encodeOp c s₁ = .next t₁) (h₂ : encodeOp c s₂ = .next t₂) : t₁.txStream = t₂.txStream := by
  have hs₁ := (encodeOp_next h₁).1
  have hs₂ := (encodeOp_next h₂).1
  obtain ⟨e, he, rfl⟩ | ⟨hc, ⟨hw₁, rfl⟩ | ⟨rest, hw₁, rfl⟩ | ⟨e, n, rest, hw₁, rfl⟩⟩ := encodeOp_next_cases h₁
  · cases h₂.symm.trans (encodeOp_of_violation hs₂ (hcfg ▸ he))
    exact htx
  · cases h₂.symm.trans (encodeOp_of_nil hs₂ (hcfg ▸ hc) (hw ▸ hw₁))
    exact htx
  · cases h₂.symm.trans (encodeOp_of_ok hs₂ (hcfg ▸ hc) (hw ▸ hw₁))
    exact congrArg (· ++ requestFrame c) htx
  · cases h₂.symm.trans (encodeOp_of_err hs₂ (hcfg ▸ hc) (hw ▸ hw₁))
    exact congrArg (· ++ (requestFrame c).take n) htx

end Sys2Proof.Machine

open Sys2Proof Sys2Proof.Machine

/-- Settles O40: in a ready state every row is `encodeOp` or `decodeOp`, and both end in a next state. -/
theorem everyRowCompletesWhenReady : Obligations.EveryRowCompletesWhenReady :=
  fun i _ hs => exec_completes i hs

/-- Settles O41: every row asks first whether an operation is in flight. -/
theorem overlapIsRefusedByName : Obligations.OverlapIsRefusedByName := by
  intro i s h
  obtain ⟨run, hrun⟩ := exec_eq_whenReady i s
  rw [hrun, whenReady_of_busy h]

/-- Settles O42: every row asks next whether a channel is attached. -/
theorem noChannelIsRefusedByName : Obligations.NoChannelIsRefusedByName := by
  intro i s he hd ha
  obtain ⟨run, hrun⟩ := exec_eq_whenReady i s
  rw [hrun, whenReady_of_unattached he hd ha]

/-- Settles O46: a step hands the issue at the head of the inputs to the decoder, a table word as any other. -/
theorem stepRunsTheDecodedOperation : Obligations.StepRunsTheDecodedOperation := by
  refine ⟨fun s p i rest h hd => step_of_issue h hd, fun s p e rest h hd => ?_, fun s nbits w i h => ?_⟩
  · rw [step_of_rejected h hd]
    cases e <;> rfl
  · have hd : decode (tableIssue nbits w) = .ok i := by
      rw [decodeTableWord] at h
      split at h
      · next hok => rw [hok, Option.some.inj h]
      · cases h
    rw [step_of_issue (withFetchWord_inputs s nbits w) hd, dropInput_withFetchWord]

/-- Settles O47: by induction on the number of steps, each of which finds no input. -/
theorem silentChannelHangsWithoutFault : Obligations.SilentChannelHangsWithoutFault :=
  fun _ n h => run_of_no_input h n

/-- Settles O48: no operation and no other input writes the configuration. -/
theorem noStepWritesTheConfiguration : Obligations.NoStepWritesTheConfiguration := by
  intro s t h
  obtain ⟨-, hs⟩ | ⟨p, i, rest, -, -, hs⟩ | ⟨p, e, rest, -, -, hs⟩ | ⟨a, rest, -, hs⟩ | ⟨a, rest, -, hs⟩ |
    ⟨d, rest, -, hs⟩ | ⟨rest, -, hs⟩ := step_cases s <;> rw [hs] at h
  · cases h
    rfl
  · exact exec_config (s := dropInput rest s) h
  · cases h
  · exact acceptWriteAnswer_config (s := dropInput rest s) h
  · exact acceptReadAnswer_config (s := dropInput rest s) h
  · cases h
    rfl
  · cases h
    rfl

/-- Settles O50: with neither unit waiting a reset adds nothing to the streams. -/
theorem resetClearsTheCodecOnly : Obligations.ResetClearsTheCodecOnly := by
  intro s d rest h he hd
  rw [step_of_reset h, resetCodec, abandonedWrite_of_not_writing (s := dropInput rest s) d he,
    abandonedRead_of_not_await (s := dropInput rest s) d hd]
  simp [dropInput]

/-- Settles O51: a reset clears the codec, and the streams gain what the unit that waited had drawn. -/
theorem resetAbandonsAnOperationInFlight : Obligations.ResetAbandonsAnOperationInFlight := by
  intro s d rest h
  refine ⟨_, step_of_reset h, rfl, rfl, rfl, rfl, rfl, rfl, rfl, rfl, rfl, rfl, rfl, rfl, rfl, rfl, rfl,
    fun f he hf => ?_, fun he => ?_, fun hd => ?_, fun hd => ?_⟩
  · exact congrArg (s.txStream ++ ·) (abandonedWrite_of_writing (s := dropInput rest s) d he hf)
  · exact resetCodec_txStream_of_not_writing (s := dropInput rest s) d he
  · exact congrArg (s.rxTaken ++ ·) (abandonedRead_of_await (s := dropInput rest s) d hd)
  · exact resetCodec_rxTaken_of_not_await (s := dropInput rest s) d hd

/-- Settles O52: a reset of a ready state keeps the configuration, the answers and the streams, and that is all the
unit that runs next depends on. -/
theorem resetBetweenOperationsIsNotObservable : Obligations.ResetBetweenOperationsIsNotObservable := by
  intro i s d rest hs hin
  obtain ⟨he, hd, ha⟩ := hs
  have hs₁ : Ready (dropInput rest s) := ⟨he, hd, ha⟩
  have hs₂ : Ready (resetCodec d (dropInput rest s)) := ⟨nofun, nofun, ha⟩
  have htx := resetCodec_txStream_of_not_writing (s := dropInput rest s) d he
  have hrx := resetCodec_rxTaken_of_not_await (s := dropInput rest s) d hd
  obtain ⟨t₁, t₂, h₁, h₂, henc, hdec⟩ := outcomeDependsOnlyOnOperandsConfigAndAnswers i _ _ hs₁ hs₂ rfl rfl rfl
  refine ⟨_, t₁, t₂, step_of_reset hin, h₁, h₂, fun hi => ?_, fun hi => ?_⟩
  · obtain ⟨c, hc⟩ := Option.ne_none_iff_exists'.1 hi
    obtain ⟨hphase, hcmd, htxf, hout⟩ := henc hi
    rw [exec_eq_shared, hc] at h₁ h₂
    have hwire : t₁.txStream = t₂.txStream := encodeOp_txStream_congr (s₁ := dropInput rest s)
      (s₂ := resetCodec d (dropInput rest s)) rfl rfl htx.symm h₁ h₂
    exact ⟨hphase, hcmd, htxf, hwire, hout⟩
  · obtain ⟨hphase, hrxf, hrxlen, hres, hout⟩ := hdec hi
    rw [exec_eq_shared, hi] at h₁ h₂
    have htaken : t₁.rxTaken = t₂.rxTaken := by
      obtain ⟨-, -, hleft₁⟩ := decodeOp_frame h₁
      obtain ⟨-, -, hleft₂⟩ := decodeOp_frame h₂
      rw [hleft₁.rxTaken, hleft₂.rxTaken, hrx, hrxf]
    exact ⟨hphase, hrxf, hrxlen, hres, htaken, hout⟩

/-- Settles O53: the attachment was all that could be missing. -/
theorem attachingAChannelMakesTheCodecReady : Obligations.AttachingAChannelMakesTheCodecReady :=
  fun _ _ h => ⟨step_of_attachChannel h, fun he hd i => exec_completes i ⟨he, hd, rfl⟩⟩

/-- Settles O54: each register of the reset state as it is written there. -/
theorem resetStateHoldsNoValues : Obligations.ResetStateHoldsNoValues := by
  and_intros <;> rfl

/-- Settles O55: a register without value faults in its reader, and a frame position is bounded before it is read. -/
theorem readingNoValueFaults : Obligations.ReadingNoValueFaults := by
  intro s
  refine ⟨readReg_of_none _, fun _ => readReg_of_some _, readReg_of_none _, fun _ => readReg_of_some _,
    readReg_of_none _, fun _ => readReg_of_some _, readReg_of_none _, fun _ => readReg_of_some _,
    readReg_of_none _, fun _ => readReg_of_some _, fun k => readTxf_of_none k, fun k => readRxf_of_none k,
    fun f k hf hlen => ?_, fun f k hf => ?_⟩
  · rw [readTxf_of_some k hf]
    exact ⟨fun hk => framePosition_of_lt_length _ hk (hlen ▸ hk), framePosition_of_nine_le _ f⟩
  · rw [readRxf_of_some k hf]
    exact ⟨framePosition_of_lt_length _, framePosition_of_length_le _, framePosition_of_nine_le _ f⟩

/-- Settles O56: the codes as they are listed. -/
theorem outcomeCodesAreAsListed : Obligations.OutcomeCodesAreAsListed :=
  ⟨fun _ => rfl, fun _ => rfl, fun _ _ _ => rfl, fun _ => rfl, fun _ _ => rfl, fun _ _ => rfl,
    fun _ => ⟨rfl, rfl⟩, rfl, rfl, fun _ _ => rfl⟩

end

section
/-! PROOF. The invariant of the codec's state (Safety.lean): it falls into a part for each unit, which only that unit's
operations touch, and the one clause that no two operations are in flight. -/

namespace Sys2Proof.Machine

variable {s t : State}

/-! ### The outcomes of each unit are sound (R160 to R164) -/

/-- A violation says what is wrong with the operand it names (R161). -/
theorem checkCommand_sound {cfg : Config} {c : Command} {e : OpError} (h : checkCommand cfg c = some e) :
    SoundEncOutcome cfg (.error e) := by
  unfold checkCommand at h
  split_ifs at h with ha hi he ht hm hv <;> simp only [Bool.not_eq_true', ← Bool.not_eq_true] at * <;> cases h
  · exact mt (inU8_iff _).2 ha
  · exact mt (inU8_iff _).2 hi
  · rw [not_not, inU8_iff] at hi
    rw [enumerated_iff, Classical.not_imp] at he
    exact ⟨he.1, hi, he.2⟩
  · exact mt (inU8_iff _).2 ht
  · exact mt (inU8_iff _).2 hm
  · exact mt (inI32_iff _).2 hv

/-- The mapped codes as bytes (R75). -/
theorem mem_mappedCodes_iff (code : Byte) :
    code ∈ [(1 : Byte), 2, 3, 4, 5, 6] ↔ statusClass code = .mappedError := by
  rw [statusClass_eq_mappedError_iff]
  simp [← BitVec.toNat_inj]

theorem statusMessage_of_mapped {code : Byte} (h : statusClass code = .mappedError) :
    ∃ message, statusMessage code = some message := by
  rw [← mem_mappedCodes_iff] at h
  fin_cases h <;> exact ⟨_, rfl⟩

theorem status_ne_of_class {a b : Byte} {k : StatusClass} (h : statusClass a = k) (hb : statusClass b ≠ k) :
    a ≠ b := fun hab => hb (hab ▸ h)

theorem statusOutcome_sound (cfg : Config) {r : Reply} (hv : -2147483648 ≤ r.value ∧ r.value ≤ 2147483647) :
    SoundDecOutcome cfg (statusOutcome cfg r) := by
  cases h : statusClass r.status with
  | success =>
    have hs : r.status = 100 := BitVec.eq_of_toNat_eq ((statusClass_eq_success_iff _).1 h)
    rw [statusOutcome_of_success cfg h]
    exact ⟨.inl ⟨hs, by rw [resultOf, hs]; rfl⟩, hv⟩
  | successStored =>
    have hs : r.status = 101 := BitVec.eq_of_toNat_eq ((statusClass_eq_successStored_iff _).1 h)
    rw [statusOutcome_of_successStored cfg h]
    exact ⟨.inr ⟨hs, by rw [resultOf, hs]; rfl⟩, hv⟩
  | mappedError =>
    obtain ⟨message, hm⟩ := statusMessage_of_mapped h
    rw [statusOutcome_of_mapped cfg rfl h hm]
    exact ⟨status_ne_of_class h nofun, status_ne_of_class h nofun, fun _ => hm,
      fun hn => absurd ((mem_mappedCodes_iff _).2 h) hn⟩
  | unknown =>
    rw [statusOutcome_of_unknown cfg h]
    refine ⟨status_ne_of_class h nofun, status_ne_of_class h nofun, fun hm => ?_, fun _ => rfl⟩
    cases h.symm.trans ((mem_mappedCodes_iff _).1 hm)

theorem replyOutcome_sound (cfg : Config) (b : Bytes) : SoundDecOutcome cfg (replyOutcome cfg b) := by
  by_cases hlen : b.length = 9
  · cases hw : wellChecksummed b with
    | true =>
      obtain ⟨r, hr, hout⟩ := replyOutcome_of_wellChecksummed (cfg := cfg) hlen hw
      exact hout ▸ statusOutcome_sound cfg (parseReply_value_bounds hr)
    | false =>
      obtain ⟨_, _, hne, hout⟩ := replyOutcome_of_checksum_mismatch cfg hlen hw
      exact hout ▸ hne
  · rw [replyOutcome_of_length_ne hlen, lengthError]
    split
    · next h => exact Nat.le_of_lt_succ h
    · next h => exact Nat.lt_of_le_of_ne (Nat.not_lt.1 h) (Ne.symm hlen)

/-! ### The invariant, unit by unit -/

/-- The clauses of `State.Inv` about the encoder. -/
structure EncoderInv (s : State) : Prop where
  writeUnanswered : s.encPhase = .writing → s.writeAnswers = []
  txfOfCmd : ∀ f, s.txf = some f →
    SoundFrame f ∧ ∃ c, s.cmd = some c ∧ LegalCommand s.config c ∧ f = requestFrame c
  writingHasFrame : s.encPhase = .writing → ∃ f, s.txf = some f
  encOutcome : ∀ o, s.encOut = some o → SoundEncOutcome s.config o

/-- The clauses of `State.Inv` about the decoder. -/
structure DecoderInv (s : State) : Prop where
  readUnanswered : s.decPhase = .await → s.readAnswers = []
  rxlenOfRxf : s.rxlen = s.rxf.map List.length
  awaitClear : s.decPhase = .await → s.rxf = none ∧ s.res = none
  resValidated : s.res ≠ none → s.decPhase = .validated
  validated : s.decPhase = .validated → ∃ r b,
    s.res = some r ∧ s.decOut = some (.ok r) ∧ s.rxf = some b ∧ replyOutcome s.config b = .ok r
  rejected : s.decPhase = .rejected → ∃ e, s.decOut = some (.error e)
  decOutcome : ∀ o, s.decOut = some o → SoundDecOutcome s.config o

theorem inv_iff : s.Inv ↔ ¬(s.encPhase = .writing ∧ s.decPhase = .await) ∧ EncoderInv s ∧ DecoderInv s := by
  constructor
  · rintro ⟨h1, h2, h3, h4, h5, h6, h7, h8, h9, h10, h11, h12⟩
    exact ⟨h1, ⟨h2, h4, h5, h11⟩, ⟨h3, h6, h7, h8, h9, h10, h12⟩⟩
  · rintro ⟨h1, ⟨h2, h4, h5, h11⟩, ⟨h3, h6, h7, h8, h9, h10, h12⟩⟩
    exact ⟨h1, h2, h3, h4, h5, h6, h7, h8, h9, h10, h11, h12⟩

theorem encoderInv_of_unchanged (h : EncoderInv s) (hst : EncoderUnchanged s t) : EncoderInv t := by
  obtain ⟨hcfg, hcmd, htxf, hphase, hout, -, -, hw, -⟩ := hst
  obtain ⟨h1, h2, h3, h4⟩ := h
  rw [← hcfg, ← htxf, ← hcmd] at h2
  rw [← hphase] at h1 h3
  exact ⟨hw ▸ h1, h2, htxf ▸ h3, hcfg ▸ hout ▸ h4⟩

theorem decoderInv_of_unchanged (h : DecoderInv s) (hst : DecoderUnchanged s t) : DecoderInv t := by
  obtain ⟨hcfg, hrxf, hrxlen, hphase, hres, hout, -, -, hr, -⟩ := hst
  obtain ⟨h1, h2, h3, h4, h5, h6, h7⟩ := h
  rw [← hphase] at h1 h3 h4 h5 h6
  rw [← hrxf] at h2 h3 h5
  rw [← hres] at h3 h4 h5
  rw [← hout] at h5 h6 h7
  rw [← hcfg] at h5 h7
  exact ⟨hr ▸ h1, hrxlen ▸ h2, h3, h4, h5, h6, h7⟩

/-! ### ENCODE -/

theorem requestFrame_txfOfCmd {cfg : Config} {c : Command} (hc : LegalCommand cfg c) :
    ∀ f, some (requestFrame c) = some f →
      SoundFrame f ∧ ∃ d, some c = some d ∧ LegalCommand cfg d ∧ f = requestFrame d := by
  rintro _ ⟨⟩
  exact ⟨requestFrame_sound c, c, rfl, hc, rfl⟩

theorem encodeOp_encoderInv {c : Command} (hi : EncoderInv s) (h : encodeOp c s = .next t) : EncoderInv t := by
  have hs := (encodeOp_next h).1
  obtain ⟨e, he, rfl⟩ | ⟨hc, ⟨hw, rfl⟩ | ⟨rest, -, rfl⟩ | ⟨e, n, rest, -, rfl⟩⟩ := encodeOp_next_cases h
  · exact ⟨nofun, nofun, nofun, fun o ho => Option.some.inj ho ▸ checkCommand_sound he⟩
  · exact ⟨fun _ => hw, requestFrame_txfOfCmd hc, fun _ => ⟨_, rfl⟩, hi.encOutcome⟩
  · exact ⟨nofun, requestFrame_txfOfCmd hc, nofun, fun o ho => Option.some.inj ho ▸ requestFrame_sound c⟩
  · exact ⟨nofun, requestFrame_txfOfCmd hc, nofun, fun o ho => Option.some.inj ho ▸ trivial⟩

/-- The end of a write leaves `CMD` and `TXF` and writes a sound outcome. -/
theorem finishWrite_encoderInv {a : WriteAnswer} (hi : EncoderInv s) (h : finishWrite a s = .next t) :
    EncoderInv t ∧ t.encPhase = .idle := by
  obtain ⟨f, hf, ⟨-, rfl⟩ | ⟨e, n, -, rfl⟩⟩ := finishWrite_next h
  · exact ⟨⟨nofun, hi.txfOfCmd, nofun, fun o ho => Option.some.inj ho ▸ (hi.txfOfCmd f hf).1⟩, rfl⟩
  · exact ⟨⟨nofun, hi.txfOfCmd, nofun, fun o ho => Option.some.inj ho ▸ trivial⟩, rfl⟩

/-! ### DECODE -/

/-- The end of a read whose buffers were clear: the registers and the outcome are all of this read. -/
theorem finishRead_decoderInv (a : ReadAnswer) (hrxf : s.rxf = none) (hrxlen : s.rxlen = none)
    (hres : s.res = none) : DecoderInv (finishRead a s) ∧ (finishRead a s).decPhase ≠ .await := by
  obtain ⟨e, -, h⟩ | ⟨b, r, -, hout, h⟩ | ⟨b, e, -, hout, h⟩ := finishRead_cases (s := s) a <;> rw [h]
  · exact ⟨⟨nofun, by simp [hrxf, hrxlen], nofun, fun hn => absurd hres hn, nofun, fun _ => ⟨_, rfl⟩,
      fun o ho => Option.some.inj ho ▸ trivial⟩, nofun⟩
  · have hsound := hout ▸ replyOutcome_sound s.config b
    exact ⟨⟨nofun, rfl, nofun, fun _ => rfl, fun _ => ⟨r, b, rfl, rfl, rfl, hout⟩, nofun,
      fun o ho => Option.some.inj ho ▸ hsound⟩, nofun⟩
  · have hsound := hout ▸ replyOutcome_sound s.config b
    exact ⟨⟨nofun, rfl, nofun, fun hn => absurd hres hn, nofun, fun _ => ⟨e, rfl⟩,
      fun o ho => Option.some.inj ho ▸ hsound⟩, nofun⟩

theorem decodeOp_decoderInv {d : Option ReadAnswer} (hi : DecoderInv s) (h : decodeOp d s = .next t) :
    DecoderInv t := by
  obtain ⟨a, -, rfl⟩ | ⟨-, hr, rfl⟩ | ⟨a, rest, -, -, rfl⟩ := decodeOp_next_cases h
  · exact (finishRead_decoderInv (s := startRead s) a rfl rfl rfl).1
  · exact ⟨fun _ => hr, rfl, fun _ => ⟨rfl, rfl⟩, fun hn => absurd rfl hn, nofun, nofun, hi.decOutcome⟩
  · exact (finishRead_decoderInv (s := { startRead s with readAnswers := rest }) a rfl rfl rfl).1

/-! ### Steps -/

/-- An operation runs with none in flight and changes its own unit only. -/
theorem exec_inv {i : Instr} (hi : s.Inv) (h : exec i s = .next t) : t.Inv := by
  obtain ⟨hwrite, hread, -⟩ := ready_of_exec_next h
  obtain ⟨-, henc, hdec⟩ := inv_iff.1 hi
  rw [exec_eq_shared] at h
  cases hc : commandOf i with
  | some c =>
    rw [hc] at h
    have hframe := (encodeOp_decoderUnchanged h).1
    exact inv_iff.2 ⟨fun hboth => hread (hframe.decPhase ▸ hboth.2), encodeOp_encoderInv henc h,
      decoderInv_of_unchanged hdec hframe⟩
  | none =>
    rw [hc] at h
    have hframe := (decodeOp_frame h).1
    exact inv_iff.2 ⟨fun hboth => hwrite (hframe.encPhase ▸ hboth.1), encoderInv_of_unchanged henc hframe,
      decodeOp_decoderInv hdec h⟩

/-- A write answer ends the write that waits, or is kept where none does. -/
theorem acceptWriteAnswer_inv {a : WriteAnswer} (hi : s.Inv) (h : acceptWriteAnswer a s = .next t) : t.Inv := by
  obtain ⟨hone, henc, hdec⟩ := inv_iff.1 hi
  unfold acceptWriteAnswer at h
  split at h
  · obtain ⟨henc', hidle⟩ := finishWrite_encoderInv henc h
    refine inv_iff.2 ⟨?_, henc', decoderInv_of_unchanged hdec (finishWrite_decoderUnchanged h)⟩
    simp [hidle]
  · next hidle =>
    cases h
    have hne : s.encPhase ≠ .writing := by simp [hidle]
    exact inv_iff.2 ⟨hone, ⟨fun hw => absurd hw hne, henc.txfOfCmd, henc.writingHasFrame, henc.encOutcome⟩,
      decoderInv_of_unchanged hdec ⟨rfl, rfl, rfl, rfl, rfl, rfl, rfl, rfl, rfl, rfl⟩⟩

theorem queueRead_inv (a : ReadAnswer) (hi : s.Inv) (hd : s.decPhase ≠ .await) :
    State.Inv { s with readAnswers := s.readAnswers ++ [a] } := by
  obtain ⟨h1, h2, -, h4, h5, h6, h7, h8, h9, h10, h11, h12⟩ := hi
  exact ⟨h1, h2, fun hr => absurd hr hd, h4, h5, h6, h7, h8, h9, h10, h11, h12⟩

/-- A read answer ends the read that waits, whose buffers are clear, or is kept where none does. -/
theorem acceptReadAnswer_inv {a : ReadAnswer} (hi : s.Inv) (h : acceptReadAnswer a s = .next t) : t.Inv := by
  by_cases hd : s.decPhase = .await
  · obtain ⟨-, henc, hdec⟩ := inv_iff.1 hi
    obtain ⟨hrxf, hres⟩ := hdec.awaitClear hd
    have hrxlen : s.rxlen = none := by rw [hdec.rxlenOfRxf, hrxf]; rfl
    obtain ⟨hdec', hdone⟩ := finishRead_decoderInv a hrxf hrxlen hres
    simp only [acceptReadAnswer, hd] at h
    cases h
    exact inv_iff.2 ⟨fun hboth => hdone hboth.2,
      encoderInv_of_unchanged henc (finishRead_encoderUnchanged a ⟨rfl, rfl, rfl, rfl, rfl, rfl, rfl, rfl, rfl⟩),
      hdec'⟩
  · unfold acceptReadAnswer at h
    split at h
    · next hawait => exact absurd hawait hd
    all_goals
      cases h
      exact queueRead_inv a hi hd

theorem resetCodec_inv (d : ResetDraw) (s : State) : (resetCodec d s).Inv :=
  ⟨nofun, nofun, nofun, nofun, nofun, rfl, nofun, fun h => absurd rfl h, nofun, nofun, nofun, nofun⟩

/-- The invariant does not speak of the inputs or the attachment. -/
theorem inv_of_inputs_attached (hi : s.Inv) (inputs : List Input) (attached : Bool) :
    State.Inv { s with inputs := inputs, attached := attached } := by
  obtain ⟨h1, h2, h3, h4, h5, h6, h7, h8, h9, h10, h11, h12⟩ := hi
  exact ⟨h1, h2, h3, h4, h5, h6, h7, h8, h9, h10, h11, h12⟩

theorem acceptWriteAnswer_ne_fault (a : WriteAnswer) (hi : s.Inv) (r : Fault) :
    acceptWriteAnswer a s ≠ .fault r := by
  unfold acceptWriteAnswer
  split
  · next hw =>
    obtain ⟨f, hf⟩ := hi.writingHasFrame hw
    simp [finishWrite_of_txf hf]
  · simp

theorem acceptReadAnswer_ne_fault (a : ReadAnswer) (s : State) (r : Fault) :
    acceptReadAnswer a s ≠ .fault r := by
  unfold acceptReadAnswer
  split <;> simp

end Sys2Proof.Machine

open Sys2Proof Sys2Proof.Machine

/-- Settles O57: the reset state is what a reset leaves of it, with no register holding a value. -/
theorem invariantHoldsAtReset : Obligations.InvariantHoldsAtReset :=
  resetCodec_inv ⟨0, []⟩ State.reset

/-- Settles O58: each kind of input keeps the part of each unit and the clause that joins them. -/
theorem everyStepKeepsTheInvariant : Obligations.EveryStepKeepsTheInvariant := by
  intro s t hi h
  have hdrop (rest : List Input) : (dropInput rest s).Inv := inv_of_inputs_attached hi rest s.attached
  obtain ⟨-, hs⟩ | ⟨p, i, rest, -, -, hs⟩ | ⟨p, e, rest, -, -, hs⟩ | ⟨a, rest, -, hs⟩ | ⟨a, rest, -, hs⟩ |
    ⟨d, rest, -, hs⟩ | ⟨rest, -, hs⟩ := step_cases s <;> rw [hs] at h
  · cases h
    exact hi
  · exact exec_inv (hdrop rest) h
  · cases h
  · exact acceptWriteAnswer_inv (hdrop rest) h
  · exact acceptReadAnswer_inv (hdrop rest) h
  · cases h
    exact resetCodec_inv d _
  · cases h
    exact inv_of_inputs_attached hi rest true

/-- Settles O59: a write that waits has a frame in `TXF`, and that is the one register a step reads. -/
theorem noStepFaultsUnderTheInvariant : Obligations.NoStepFaultsUnderTheInvariant := by
  intro s hi r
  have hdrop (rest : List Input) : (dropInput rest s).Inv := inv_of_inputs_attached hi rest s.attached
  obtain ⟨-, hs⟩ | ⟨p, i, rest, -, -, hs⟩ | ⟨p, e, rest, -, -, hs⟩ | ⟨a, rest, -, hs⟩ | ⟨a, rest, -, hs⟩ |
    ⟨d, rest, -, hs⟩ | ⟨rest, -, hs⟩ := step_cases s <;> rw [hs]
  · nofun
  · exact exec_ne_fault i _ r
  · nofun
  · exact acceptWriteAnswer_ne_fault a (hdrop rest) r
  · exact acceptReadAnswer_ne_fault a _ r
  · nofun
  · nofun

end
